-- ==== Sys2Proof/Word.lean ====
section
/-! DEFINITION. The widths and index types of the part: bytes, channels, slots, tariffs, bands, handles,
generations and customer references, and the numeric bounds that the manual names. -/

namespace Sys2Proof

/-- One byte of a frame, a payload, a record or the array. -/
abbrev Byte := BitVec 8

/-- A channel, 0 to 7 (0.5.2). -/
abbrev Channel := Fin 8

/-- A slot of the account table, 0 to 31 (R1). -/
abbrev Slot := Fin 32

/-- A price band, 0 to 3 (R66). -/
abbrev Band := Fin 4

/-- A tariff, 0 to 3 (R66), where it is known to be in range. -/
abbrev Tariff := Fin 4

/-- An account handle, any 16-bit value as a frame carries it (R3). -/
abbrev Handle := BitVec 16

/-- An account generation or a generation counter, 0 to 2047 (R1). -/
abbrev Generation := BitVec 11

/-- A customer reference: eight bytes without a numeric meaning (R7, R185). -/
abbrev Reference := Vector Byte 8

/-- The bounds of a balance, BAL_MIN and BAL_MAX (0.5.1, R43). -/
def balMin : Int := -2000000000
@[inherit_doc balMin] def balMax : Int := 2000000000

/-- The greatest value of a credited or debited total, 2^48 - 1 (R44). -/
def totalMax : Nat := 2 ^ 48 - 1

/-- The most accounts that one channel may bind (R24). -/
def channelCapacity : Nat := 3

/-- The depth of the request queue and of the response queue (R168, R171). -/
def queueDepth : Nat := 4

/-- The channels in ascending order. -/
def channels : List Channel := List.finRange 8

/-- The slots in ascending order. -/
def slots : List Slot := List.finRange 32

end Sys2Proof
end

