-- ==== Sys2Proof/Names.lean ====
section
/-! DEFINITION. The named values of the manual: states, causes, outcomes, blocks, retained items and the
shapes of what reaches the part from outside (link events, input samples, copies of the array). -/

namespace Sys2Proof

/-! ## Account names -/

/-- The held state recorded beside QUARANTINED (R1). -/
inductive Held where
  | waiting
  | live
  | settled
deriving DecidableEq, Repr

/-- The life state of a slot (R23).  The held state is present exactly in QUARANTINED (R1), so it is an
argument of that state. -/
inductive Life where
  | free
  | waiting
  | live
  | settled
  | quarantined (held : Held)
  | lost
deriving DecidableEq, Repr

/-- The credit state of a LIVE account (R48). -/
inductive Credit where
  | normal
  | low
  | emergency
  | exhausted
deriving DecidableEq, Repr

/-- The emergency status (3.3.3). -/
inductive Emergency where
  | none
  | available
  | inUse
  | spent
deriving DecidableEq, Repr, Inhabited

/-! ## Supply names -/

/-- The kind of a supply fault (R101). -/
inductive FaultKind where
  | stuckClosed
  | failToClose
  | dropped
  | welded
deriving DecidableEq, Repr

/-- The supply state (R101).  The fault kind is present exactly in FAULT, so it is an argument of it.
`opened` is the manual's OPEN. -/
inductive SupplyState where
  | opened
  | armed
  | closing
  | closed
  | opening
  | fault (kind : FaultKind)
  | adopting
deriving DecidableEq, Repr

/-! ## Retention names -/

/-- The power state (R134). -/
inductive Power where
  | restoring
  | run
  | holdup
  | draining
deriving DecidableEq, Repr

/-- The kind of a reset (0.5.5, R146). -/
inductive ResetKind where
  | powerOn
  | pin
  | soft
deriving DecidableEq, Repr

/-- A retained item (R124). -/
inductive Item where
  | account (slot : Slot)
  | tariff
  | settings
deriving DecidableEq, Repr

/-- One of the two copies of an item (R125). -/
inductive CopyId where
  | a
  | b
deriving DecidableEq, Repr

/-- What the array holds at the place of one copy (R125): the erased pattern; a commit serial, content
bytes and a CRC-16; or the remains of a cut-off write, which restore classes invalid (R133). -/
inductive NvCopy where
  | blank
  | image (serial : BitVec 32) (content : List Byte) (crc : BitVec 16)
  | torn
deriving DecidableEq, Repr

/-- The outcome of an item at restore (R139). -/
inductive ItemOutcome where
  | loaded
  | blank
  | lost
deriving DecidableEq, Repr

/-- How a write under way is cut off by a reset (R133): before any byte of the copy changed, in between,
or after every byte had been stored. -/
inductive Cut where
  | untouched
  | torn
  | stored
deriving DecidableEq, Repr

/-! ## Blocks, subjects and causes -/

/-- The blocks that send each other claims, raises, dirtyings and answers (0.2). -/
inductive Block where
  | store
  | tariff
  | levy
  | quantizer (n : Channel)
  | supply (n : Channel)
  | retention
deriving DecidableEq, Repr

/-- The seven causes of a slot (Table 8-1). -/
inductive SlotCause where
  | lowCredit
  | exhausted
  | emergency
  | quarantined
  | lost
  | saturated
  | promoted
deriving DecidableEq, Repr

/-- The four causes of a channel (Table 8-1). -/
inductive ChannelCause where
  | supplyFault
  | flowWhileOpen
  | unbilledFull
  | armed
deriving DecidableEq, Repr

/-- The five causes of the device (Table 8-1). -/
inductive DeviceCause where
  | restored
  | levyDone
  | powerWarn
  | tariffLost
  | settingsLost
deriving DecidableEq, Repr

/-- The subject of an attention entry: one of 41 (8.1). -/
inductive Subject where
  | slot (i : Slot)
  | channel (n : Channel)
  | device
deriving DecidableEq, Repr

/-- A raise: a subject and one cause of that subject's kind (R150). -/
inductive Raise where
  | slot (i : Slot) (cause : SlotCause)
  | channel (n : Channel) (cause : ChannelCause)
  | device (cause : DeviceCause)
deriving DecidableEq, Repr

/-! ## Requests and frames -/

/-- The outcome of a request (R176, Table 10-7).  `empty` is NONE, the outcome of the empty response. -/
inductive OutcomeCode where
  | ok
  | accepted
  | unknownRequest
  | badLength
  | badArgument
  | powerLow
  | noSuchAccount
  | wrongState
  | staleVersion
  | duplicateVoucher
  | duplicateReference
  | tableFull
  | channelFull
  | limitExceeded
  | integrity
  | busy
  | empty
deriving DecidableEq, Repr

/-- The result of the last frame that ended (R164). -/
inductive FrameResult where
  | accepted
  | badType
  | badCheck
  | badLength
  | queueFull
  | notReady
  | timeout
  | fetchIncomplete
deriving DecidableEq, Repr

/-- The frame assembly state (R162).  DISCARD keeps the result that will be recorded.  `kind` is TYPE. -/
inductive FrameState where
  | idle
  | kind
  | request
  | fetch
  | discard (kept : FrameResult)
  | waitDeassert
deriving DecidableEq, Repr

/-- What the host does on the link (R161, R162): a whole frame of complete bytes between one assertion
of CSN and the next deassertion, or one event of a frame by itself. -/
inductive LinkEvent where
  | frame (mosi : List Byte)
  | csnAsserts
  | byte (mosi : Byte)
  | clock (mosi : Bool)
  | csnDeasserts
deriving DecidableEq, Repr

/-! ## Inputs -/

/-- The levels of the field inputs at one sample of the 1 kHz time base, bit n for channel n.  A bit at 1
is an asserted input (0.3). -/
structure Pins where
  pls : BitVec 8
  btn : BitVec 8
  fbk : BitVec 8
  pfw : Bool
deriving DecidableEq, Repr

/-- What a reset finds on the inputs: the first sample of FBK and PFW (R103, R135) and the level of CSN at
that moment (R162). -/
structure FirstSample where
  fbk : BitVec 8
  pfw : Bool
  csn : Bool
deriving DecidableEq, Repr

end Sys2Proof
end

