-- ==== Sys2Proof/Syntax.lean ====
section
/-! DEFINITION. The commands of the part: one constructor for each row of spec/opcode_table.json.  A row is
one whole, indivisible step of the block that takes it.  The table gives the rows no operands.  An operand
stands here only where the step's content comes from outside the part (frame bytes, input levels, what the
array reads back) or where it selects which of several like blocks takes the step.  Everything else a step
uses is state: a request's fields stand in the Request Engine, a claim or a result stands in flight. -/

namespace Sys2Proof

/-- One half of a READ_CHANNEL: the Channel Quantizer's or the Supply Controller's (R95). -/
inductive ChannelHalf where
  | quantizer
  | supply
deriving DecidableEq, Repr

/-- The commands, in the order of the table. -/
inductive Instr where
  /-- IDENTIFY (R148). -/
  | identify
  /-- READ_DEVICE (R147): the named owner takes its part. -/
  | readDevice (owner : Block)
  /-- SOFT_RESET (R137, R177). -/
  | softReset
  /-- OPEN (R29 to R31). -/
  | openAccount
  /-- LOOKUP (R19). -/
  | lookup
  /-- READ_ACCOUNT (R20). -/
  | readAccount
  /-- SURVEY (R21). -/
  | survey
  /-- CLOSE (R32, R33). -/
  | close
  /-- RELEASE (R34). -/
  | release
  /-- REWRITE (R35 to R37). -/
  | rewrite
  /-- DISCARD (R38). -/
  | discard
  /-- TOP_UP (R56, R57). -/
  | topUp
  /-- ADJUST (R59). -/
  | adjust
  /-- SET_LIMITS (R60, R61). -/
  | setLimits
  /-- SET_BAND (R73). -/
  | setBand
  /-- SET_PRICE (R68). -/
  | setPrice
  /-- SET_STANDING (R69). -/
  | setStanding
  /-- READ_TARIFF (R70). -/
  | readTariff
  /-- COMMIT_TARIFFS (R71). -/
  | commitTariffs
  /-- LEVY (R76). -/
  | levy
  /-- CANCEL_LEVY (R80). -/
  | cancelLevy
  /-- CONFIGURE_CHANNEL (R93). -/
  | configureChannel
  /-- READ_CHANNEL (R95): the named half takes its part. -/
  | readChannel (half : ChannelHalf)
  /-- BILL_UNBILLED (R96, R97): the Store takes the claim, or completes it when the count has returned. -/
  | billUnbilled
  /-- UNBILLED_COUNT_TAKE (R97): Channel Quantizer n returns its count to the Store. -/
  | unbilledCountTake (n : Channel)
  /-- SET_HOLD (R117): Supply Controller n takes its part. -/
  | setHold (n : Channel)
  /-- RECONNECT (R116). -/
  | reconnect
  /-- CLEAR_FAULT (R111). -/
  | clearFault
  /-- FETCH_ATTENTION (R154). -/
  | fetchAttention
  /-- ACK_ATTENTION (R155). -/
  | ackAttention
  /-- SET_ATTENTION_MASK (R153). -/
  | setAttentionMask
  /-- REQUEST_FRAME (R162, R167): a request frame, or one event of it. -/
  | requestFrame (event : LinkEvent)
  /-- BAD_TYPE_FRAME (R162): a frame of no known type, or one event of it. -/
  | badTypeFrame (event : LinkEvent)
  /-- FETCH_FRAME (R169, R170): a fetch frame, or one event of it. -/
  | fetchFrame (event : LinkEvent)
  /-- GAP_TIMER_EXPIRY (R163). -/
  | gapTimerExpiry
  /-- REQUEST_TAKE (R173, R174). -/
  | requestTake
  /-- RESPONSE_QUEUE (R176). -/
  | responseQueue
  /-- PULSE_EVENT (R87, R88): the pulse recogniser of channel n has qualified a pulse. -/
  | pulseEvent (n : Channel)
  /-- WINDOW_TIMER_EXPIRY (R89). -/
  | windowTimerExpiry (n : Channel)
  /-- QUANTUM_DEBIT (R52): the Store takes a debit claim of channel n. -/
  | quantumDebit (n : Channel)
  /-- DEBIT_RESULT (R91): Channel Quantizer n acts on the oldest result that reached it. -/
  | debitResult (n : Channel)
  /-- NOTICE (R104): Supply Controller n takes the oldest notice sent to it. -/
  | notice (n : Channel)
  /-- FEEDBACK_EVENT (R103, R109): the filtered level of FBK[n] becomes `level`. -/
  | feedbackEvent (n : Channel) (level : Bool)
  /-- OPERATION_TIMER_EXPIRY (R107, R108). -/
  | operationTimerExpiry (n : Channel)
  /-- PRESS (R112, R113): the button recogniser of channel n has qualified a press. -/
  | press (n : Channel)
  /-- EMERGENCY_ENGAGE (R54, R55): the Store takes the engage claim of channel n. -/
  | emergencyEngage (n : Channel)
  /-- ENGAGE_RESULT (R115). -/
  | engageResult (n : Channel)
  /-- LEVY_CLAIM (R77). -/
  | levyClaim
  /-- LEVY_RESULT (R79). -/
  | levyResult
  /-- CAUSE_RAISE (R150): the Attention Unit takes the oldest message of the named block, a raise. -/
  | causeRaise (source : Block)
  /-- SLOT_ENTRY_REMOVAL (R157): the Attention Unit takes the Store's oldest message, a removal. -/
  | slotEntryRemoval
  /-- DIRTYING (R126): the Retention Unit takes the oldest dirtying of the named block. -/
  | dirtying (source : Block)
  /-- COMMIT_TAKE (R128). -/
  | commitTake
  /-- SNAPSHOT_CLAIM (R129). -/
  | snapshotClaim
  /-- SNAPSHOT_PART (R128): the named owner returns its part of a tariff or settings snapshot. -/
  | snapshotPart (owner : Block)
  /-- WRITE_START (R130). -/
  | writeStart
  /-- WRITE_COMPLETION (R131): the copy reads back as it was written (`none`), or as the given copy. -/
  | writeCompletion (found : Option NvCopy)
  /-- PFW_EVENT (R135): the filtered level of PFW becomes `level`. -/
  | pfwEvent (level : Bool)
  /-- DRAIN_COMPLETE (R137). -/
  | drainComplete
  /-- STOP (R137): the named block takes the stop and answers it. -/
  | stop (block : Block)
  /-- SOFT_RESET_EFFECT (R137). -/
  | softResetEffect (first : FirstSample)
  /-- POWER_ON_RESET (R133): a write under way was cut off as `cut` says. -/
  | powerOnReset (cut : Cut) (first : FirstSample)
  /-- PIN_RESET (R133). -/
  | pinReset (cut : Cut) (first : FirstSample)
  /-- CLASSIFY_COPIES (R139). -/
  | classifyCopies
  /-- LOAD_SETTINGS_AND_TARIFF (R140). -/
  | loadSettingsAndTariff
  /-- RESTORE_LOAD (R141): the next slot in ascending order. -/
  | restoreLoad
  /-- REFERENCE_CONFLICTS (R142). -/
  | referenceConflicts
  /-- OCCUPANCY_CONFLICTS (R143). -/
  | occupancyConflicts
  /-- RESTORE_PROMOTION (R144). -/
  | restorePromotion
  /-- RESTORE_SUMMARY (R143, R145, R146). -/
  | restoreSummary
  /-- ADOPT (R122). -/
  | adopt (n : Channel)
  /-- END_OF_RESTORE (R145). -/
  | endOfRestore
  /-- PULSE_RECOGNISER_EDGE (R87): PLS[n] is seen at `level`. -/
  | pulseRecogniserEdge (n : Channel) (level : Bool)
  /-- BUTTON_RECOGNISER_EDGE (R112): BTN[n] is seen at `level`. -/
  | buttonRecogniserEdge (n : Channel) (level : Bool)
  /-- EMPTY_FRAME (R162): a frame with no complete byte, or one event of it. -/
  | emptyFrame (event : LinkEvent)
  /-- WAIT_DEASSERT_END (R162): an event of a frame that a reset found in progress. -/
  | waitDeassertEnd (event : LinkEvent)
  /-- TIMED_OUT_FRAME_END (R162): an event of a frame that its gap timer discarded. -/
  | timedOutFrameEnd (event : LinkEvent)
deriving DecidableEq, Repr

end Sys2Proof
end

