-- ==== Sys2Proof/Config.lean ====
section
/-! DEFINITION. The values that the manual leaves open: opaque constants, of which no proof can know more
than their type. -/

namespace Sys2Proof

/-- DESIGN CHOICE (log 9). The emergency status step of R49 is stated for the four statuses.  A LIVE or
WAITING record whose status byte holds no valid code can be loaded by restore (R139 admits the absent code,
R65 trusts the record).  Its status is then a free value, one for each byte found. -/
opaque Config.unstatedStatus : Byte → Emergency

/-- DESIGN CHOICE (log 10). The price of a tariff byte above 3, which only a record outside every run can
hold while it passes its check. -/
opaque Config.unstatedPrice : Byte → Band → BitVec 16

/-- DESIGN CHOICE (log 10). The standing charge of a tariff byte above 3, as for the price. -/
opaque Config.unstatedStanding : Byte → BitVec 32

end Sys2Proof
end

