-- ==== Sys2Proof/Machine/Bytes.lean ====
section
/-! DEFINITION. Bytes: little-endian fields (R180), the CRC-16 of records and copies (R11, R125) and the CRC-8
of the link (R166). -/

namespace Sys2Proof.Machine

/-- The `k` low bytes of `x`, the least significant first (R180). -/
def leBytes : Nat → Nat → List Byte
  | 0, _ => []
  | k + 1, x => BitVec.ofNat 8 x :: leBytes k (x / 256)

/-- The number whose bytes are given, the least significant first (R180). -/
def ofLeBytes : List Byte → Nat
  | [] => 0
  | b :: bs => b.toNat + 256 * ofLeBytes bs

/-- A two-byte field. -/
def le16 (x : BitVec 16) : List Byte := leBytes 2 x.toNat

/-- A four-byte field, unsigned or in two's complement. -/
def le32 (x : BitVec 32) : List Byte := leBytes 4 x.toNat

/-- A six-byte field. -/
def le48 (x : BitVec 48) : List Byte := leBytes 6 x.toNat

/-- A count in one byte. -/
def count8 (x : Nat) : Byte := BitVec.ofNat 8 x

/-- A count in two bytes. -/
def count16 (x : Nat) : List Byte := leBytes 2 x

/-- A yes/no field (R180). -/
def yesNo (b : Bool) : Byte := if b then 1#8 else 0#8

/-- The byte at an offset (0 beyond the end). -/
def byteAt (bs : List Byte) (off : Nat) : Byte := bs.getD off 0#8

/-- The unsigned field of `k` bytes at an offset. -/
def fieldAt (bs : List Byte) (off k : Nat) : Nat := ofLeBytes ((bs.drop off).take k)

/-- A two-byte field at an offset. -/
def field16 (bs : List Byte) (off : Nat) : BitVec 16 := BitVec.ofNat 16 (fieldAt bs off 2)

/-- A four-byte field at an offset. -/
def field32 (bs : List Byte) (off : Nat) : BitVec 32 := BitVec.ofNat 32 (fieldAt bs off 4)

/-- A six-byte field at an offset. -/
def field48 (bs : List Byte) (off : Nat) : BitVec 48 := BitVec.ofNat 48 (fieldAt bs off 6)

/-- Eight bytes in the order received, as a customer reference travels (R185). -/
def referenceAt (bs : List Byte) (off : Nat) : Reference := Vector.ofFn fun j => byteAt bs (off + j.val)

/-- `k` shifts of the CRC-16 register, polynomial 0x1021, without reflection (R11). -/
def crc16Shift (r : BitVec 16) : Nat → BitVec 16
  | 0 => r
  | k + 1 => crc16Shift (if r.msb then (r <<< (1 : Nat)) ^^^ 0x1021#16 else r <<< (1 : Nat)) k

/-- The CRC-16 register after the bytes.  The match on the register's number only makes an evaluator compute
it byte by byte. -/
def crc16From : List Byte → BitVec 16 → BitVec 16
  | [], r => r
  | b :: bs, r =>
    match (crc16Shift (r ^^^ ((b.setWidth 16) <<< (8 : Nat))) 8).toNat with
    | 0 => crc16From bs 0#16
    | n + 1 => crc16From bs (BitVec.ofNat 16 (n + 1))

/-- The CRC-16 of R11: initial value 0xFFFF, no final XOR. -/
def crc16 (bs : List Byte) : BitVec 16 := crc16From bs 0xFFFF#16

/-- `k` shifts of the CRC-8 register, polynomial x^8 + x^2 + x + 1, without reflection (R166). -/
def crc8Shift (r : BitVec 8) : Nat → BitVec 8
  | 0 => r
  | k + 1 => crc8Shift (if r.msb then (r <<< (1 : Nat)) ^^^ 0x07#8 else r <<< (1 : Nat)) k

/-- The CRC-8 register after the bytes, computed byte by byte as for the CRC-16. -/
def crc8From : List Byte → BitVec 8 → BitVec 8
  | [], r => r
  | b :: bs, r =>
    match (crc8Shift (r ^^^ b) 8).toNat with
    | 0 => crc8From bs 0#8
    | n + 1 => crc8From bs (BitVec.ofNat 8 (n + 1))

/-- The CRC-8 of R166: initial value 0x00, no final XOR. -/
def crc8 (bs : List Byte) : Byte := crc8From bs 0x00#8

/-- A byte from its eight bits, the most significant first, as the link clocks them (R161). -/
def byteOfBits (bits : List Bool) : Byte :=
  bits.foldl (fun acc b => (acc <<< (1 : Nat)) ||| (if b then 1#8 else 0#8)) 0#8

/-- Bit k of a set (R180). -/
def setHas (set : BitVec 8) (k : Nat) : Bool := set.getLsbD k

/-- The set with its bit k written. -/
def setWith (set : BitVec 8) (k : Nat) (on : Bool) : BitVec 8 :=
  if on then set ||| (1#8 <<< k) else set &&& ~~~(1#8 <<< k)

end Sys2Proof.Machine
end

