-- ==== Sys2Proof/Machine/Codes.lean ====
section
/-! DEFINITION. The codes of the enumerated fields (Table 10-1), the outcomes (Table 10-7), the frame results
(Table 10-4), the causes (Table 10-12) and the items of the device report (Table 10-10).  Code 0 is the absent
form (R10). -/

namespace Sys2Proof.Machine

/-- The code of a life state. -/
def lifeCode : Life → Byte
  | .free => 1#8
  | .waiting => 2#8
  | .live => 3#8
  | .settled => 4#8
  | .quarantined _ => 5#8
  | .lost => 6#8

/-- The code of the held state, present in QUARANTINED alone (R1). -/
def heldCode : Life → Byte
  | .quarantined .waiting => 2#8
  | .quarantined .live => 3#8
  | .quarantined .settled => 4#8
  | .free | .waiting | .live | .settled | .lost => 0#8

/-- The code of a credit state. -/
def creditCode : Credit → Byte
  | .normal => 1#8
  | .low => 2#8
  | .emergency => 3#8
  | .exhausted => 4#8

/-- The credit state that a byte holds, if it holds a valid code. -/
def creditOfCode (b : Byte) : Option Credit :=
  if b = 1#8 then some .normal
  else if b = 2#8 then some .low
  else if b = 3#8 then some .emergency
  else if b = 4#8 then some .exhausted
  else none

/-- The code of an emergency status. -/
def emergencyCode : Emergency → Byte
  | .none => 1#8
  | .available => 2#8
  | .inUse => 3#8
  | .spent => 4#8

/-- The emergency status that a byte holds, if it holds a valid code. -/
def emergencyOfCode (b : Byte) : Option Emergency :=
  if b = 1#8 then some .none
  else if b = 2#8 then some .available
  else if b = 3#8 then some .inUse
  else if b = 4#8 then some .spent
  else none

/-- The close reason HOST_CLOSE. -/
def hostClose : Byte := 1#8

/-- The code of a supply state. -/
def supplyCode : SupplyState → Byte
  | .opened => 1#8
  | .armed => 2#8
  | .closing => 3#8
  | .closed => 4#8
  | .opening => 5#8
  | .fault _ => 6#8
  | .adopting => 7#8

/-- The code of the fault kind, 0 outside FAULT. -/
def faultCode : SupplyState → Byte
  | .fault .stuckClosed => 1#8
  | .fault .failToClose => 2#8
  | .fault .dropped => 3#8
  | .fault .welded => 4#8
  | .opened | .armed | .closing | .closed | .opening | .adopting => 0#8

/-- The code of a power state. -/
def powerCode : Power → Byte
  | .restoring => 1#8
  | .run => 2#8
  | .holdup => 3#8
  | .draining => 4#8

/-- The code of a reset kind. -/
def resetCode : ResetKind → Byte
  | .powerOn => 1#8
  | .pin => 2#8
  | .soft => 3#8

/-- The code of an item outcome. -/
def itemOutcomeCode : ItemOutcome → Byte
  | .loaded => 1#8
  | .blank => 2#8
  | .lost => 3#8

/-- The number of an item in the device report. -/
def itemNumber : Item → Nat
  | .account i => i.val
  | .tariff => 32
  | .settings => 33

/-- The code of an outcome (Table 10-7). -/
def outcomeCode : OutcomeCode → Byte
  | .ok => 0x00#8
  | .accepted => 0x01#8
  | .unknownRequest => 0x10#8
  | .badLength => 0x11#8
  | .badArgument => 0x12#8
  | .powerLow => 0x13#8
  | .noSuchAccount => 0x20#8
  | .wrongState => 0x21#8
  | .staleVersion => 0x22#8
  | .duplicateVoucher => 0x23#8
  | .duplicateReference => 0x24#8
  | .tableFull => 0x25#8
  | .channelFull => 0x26#8
  | .limitExceeded => 0x27#8
  | .integrity => 0x28#8
  | .busy => 0x29#8
  | .empty => 0xFF#8

/-- The code of a frame result in bits 2 to 0 of the status byte (Table 10-4). -/
def frameResultCode : FrameResult → Byte
  | .accepted => 0#8
  | .badType => 1#8
  | .badCheck => 2#8
  | .badLength => 3#8
  | .queueFull => 4#8
  | .notReady => 5#8
  | .timeout => 6#8
  | .fetchIncomplete => 7#8

/-- The bit of a slot cause (Table 10-12). -/
def slotCauseBit : SlotCause → Nat
  | .lowCredit => 0
  | .exhausted => 1
  | .emergency => 2
  | .quarantined => 3
  | .lost => 4
  | .saturated => 5
  | .promoted => 6

/-- The bit of a channel cause. -/
def channelCauseBit : ChannelCause → Nat
  | .supplyFault => 0
  | .flowWhileOpen => 1
  | .unbilledFull => 2
  | .armed => 3

/-- The bit of a device cause. -/
def deviceCauseBit : DeviceCause → Nat
  | .restored => 0
  | .levyDone => 1
  | .powerWarn => 2
  | .tariffLost => 3
  | .settingsLost => 4

/-- The subject of a raise. -/
def raiseSubject : Raise → Subject
  | .slot i _ => .slot i
  | .channel n _ => .channel n
  | .device _ => .device

/-- The bit of a raise's cause in the set of its subject's kind. -/
def raiseBit : Raise → Nat
  | .slot _ c => slotCauseBit c
  | .channel _ c => channelCauseBit c
  | .device c => deviceCauseBit c

/-- The code of a subject's kind. -/
def subjectKindCode : Subject → Byte
  | .slot _ => 1#8
  | .channel _ => 2#8
  | .device => 3#8

/-- The number of a subject within its kind. -/
def subjectNumber : Subject → Byte
  | .slot i => BitVec.ofNat 8 i.val
  | .channel n => BitVec.ofNat 8 n.val
  | .device => 0#8

/-- The bits that a cause set of a subject kind does not define (R186). -/
def undefinedCauses : Subject → BitVec 8
  | .slot _ => 0x80#8
  | .channel _ => 0xF0#8
  | .device => 0xE0#8

end Sys2Proof.Machine
end

