-- ==== Sys2Proof/Machine/Record.lean ====
section
/-! DEFINITION. Account records and retained items: the record body as record memory holds it, its serialised
form and integrity word (R9 to R11, R184), the tariff and settings items, and the reading of a copy's content
with the checks of R139. -/

namespace Sys2Proof.Machine

/-- The close info of a record (R8). -/
structure CloseInfo where
  balance : BitVec 32
  reason : Byte
deriving DecidableEq, Repr

/-- A record body as record memory holds it: the fields of Table 1-1 less the directory's, each at its width
of Table 10-8.  A fault in record memory can leave any value in any of them, so enumerated fields are bytes.
The voucher count is the length of the voucher list, and the close marker says whether close info is held. -/
structure Body where
  channel : Byte
  reference : Reference
  tariff : Byte
  credit : Byte
  emergency : Byte
  flags : Byte
  balance : BitVec 32
  threshold : BitVec 32
  allowance : BitVec 32
  opening : BitVec 32
  credited : BitVec 48
  debited : BitVec 48
  quanta : BitVec 32
  version : BitVec 16
  serial : BitVec 32
  lastLevy : BitVec 16
  vouchers : List (BitVec 32)
  closing : Option CloseInfo
deriving DecidableEq, Repr

/-- Every field in its absent form (R10). -/
def Body.absent : Body where
  channel := 0#8
  reference := Vector.replicate 8 0#8
  tariff := 0#8
  credit := 0#8
  emergency := 0#8
  flags := 0#8
  balance := 0#32
  threshold := 0#32
  allowance := 0#32
  opening := 0#32
  credited := 0#48
  debited := 0#48
  quanta := 0#32
  version := 0#16
  serial := 0#32
  lastLevy := 0#16
  vouchers := []
  closing := none

/-- The body as the life state shows it: present fields as they stand, absent fields in their absent form
(R5, R8, R10).  The credit state is present in LIVE and in QUARANTINED held LIVE, the close info in SETTLED
and in QUARANTINED held SETTLED. -/
def Body.shown (b : Body) : Life → Body
  | .free => .absent
  | .lost => .absent
  | .waiting => { b with credit := 0#8, closing := none }
  | .quarantined .waiting => { b with credit := 0#8, closing := none }
  | .live => { b with closing := none }
  | .quarantined .live => { b with closing := none }
  | .settled => { b with credit := 0#8 }
  | .quarantined .settled => { b with credit := 0#8 }

/-- What the Store holds for one slot (R1): the directory entry (life state with its held state, account
generation, generation counter), and in record memory the body and the integrity word. -/
structure SlotState where
  life : Life
  generation : Generation
  counter : Generation
  body : Body
  word : BitVec 16
deriving DecidableEq, Repr

/-- The handle: account generation times 32 plus the slot (R3). -/
def handleOf (i : Slot) (g : Generation) : Handle := BitVec.ofNat 16 (g.toNat * 32 + i.val)

/-- The slot part of a handle: its remainder on division by 32 (R3). -/
def slotOf (h : Handle) : Slot := ⟨h.toNat % 32, Nat.mod_lt _ (by decide)⟩

/-- The generation part of a handle: its quotient on division by 32 (R3). -/
def generationOf (h : Handle) : Nat := h.toNat / 32

/-- The serialised close info, marker first (Table 10-8). -/
def closeBytes : Option CloseInfo → List Byte
  | none => [0#8]
  | some c => [1#8] ++ le32 c.balance ++ [c.reason]

/-- The covered part of the serialised form: items 1 to 23 of R9 at the offsets of Table 10-8. -/
def covered (i : Slot) (st : SlotState) : List Byte :=
  let b := st.body.shown st.life
  le16 (handleOf i st.generation)
    ++ [lifeCode st.life, heldCode st.life, b.channel] ++ b.reference.toList
    ++ [b.tariff, b.credit, b.emergency, b.flags]
    ++ le32 b.balance ++ le32 b.threshold ++ le32 b.allowance ++ le32 b.opening
    ++ le48 b.credited ++ le48 b.debited ++ le32 b.quanta ++ le16 b.version ++ le32 b.serial ++ le16 b.lastLevy
    ++ [count8 b.vouchers.length] ++ b.vouchers.flatMap le32 ++ closeBytes b.closing

/-- The integrity word that the record's content calls for (R11). -/
def wordOf (i : Slot) (st : SlotState) : BitVec 16 := crc16 (covered i st)

/-- The serialised record: the covered part and the stored integrity word (R9, R184). -/
def serialise (i : Slot) (st : SlotState) : List Byte := covered i st ++ le16 st.word

/-- The record with its integrity word recomputed (R11). -/
def SlotState.sealed (st : SlotState) (i : Slot) : SlotState := { st with word := wordOf i st }

/-- Whether the record passes its integrity check (R12). -/
def SlotState.intact (st : SlotState) (i : Slot) : Bool := st.word == wordOf i st

/-- The FREE form (R5): account generation 0, every other field absent, the generation counter kept. -/
def freeForm (i : Slot) (counter : Generation) : SlotState :=
  SlotState.sealed { life := .free, generation := 0, counter := counter, body := .absent, word := 0 } i

/-- The LOST form (R5): the handle of the given generation, every other field absent. -/
def lostForm (i : Slot) (generation counter : Generation) : SlotState :=
  SlotState.sealed { life := .lost, generation := generation, counter := counter, body := .absent, word := 0 } i

/-- The next generation after a counter (R2): 0 to 1, n to n + 1, 2047 to 1. -/
def nextGeneration (c : Generation) : Generation := if c = 2047#11 then 1#11 else c + 1#11

/-- Whether a record's generation is later than a counter (R22): reached by advancing the counter between 1
and 1023 times under R2; from a counter of 0 every generation is later. -/
def laterGeneration (counter g : Generation) : Bool :=
  if counter = 0#11 then g != 0#11
  else
    let d := (g.toNat + 2047 - counter.toNat) % 2047
    g != 0#11 && 1 ≤ d && d ≤ 1023

/-! ## The tariff item -/

/-- One tariff bank (Table 4-1): band prices by tariff and band, and standing charges by tariff. -/
structure Bank where
  prices : Vector (Vector (BitVec 16) 4) 4
  standing : Vector (BitVec 32) 4
deriving DecidableEq, Repr

/-- The default bank: every value 0 (Table 4-1). -/
def Bank.zero : Bank where
  prices := Vector.replicate 4 (Vector.replicate 4 0#16)
  standing := Vector.replicate 4 0#32

/-- The price that a bank holds for a record's tariff byte and a band (R67). -/
def Bank.price (bank : Bank) (tariff : Byte) (band : Band) : BitVec 16 :=
  if h : tariff.toNat < 4 then bank.prices[tariff.toNat][band.val] else Config.unstatedPrice tariff band

/-- The standing charge that a bank holds for a record's tariff byte (R67). -/
def Bank.standingFor (bank : Bank) (tariff : Byte) : BitVec 32 :=
  if h : tariff.toNat < 4 then bank.standing[tariff.toNat] else Config.unstatedStanding tariff

/-- The content of the tariff item (Table 7-1).  DESIGN CHOICE (log 12): the byte layout, prices by tariff and
band, then standing charges. -/
def tariffBytes (bank : Bank) : List Byte :=
  bank.prices.toList.flatMap (fun row => row.toList.flatMap le16) ++ bank.standing.toList.flatMap le32

/-- A tariff item's content, if it is well formed (R139). -/
def parseTariff (bs : List Byte) : Option Bank :=
  let bank : Bank :=
    { prices := Vector.ofFn fun t => Vector.ofFn fun b => field16 bs (8 * t.val + 2 * b.val)
      standing := Vector.ofFn fun t => field32 bs (32 + 4 * t.val) }
  if bs.length = 48 ∧ bank.standing.toList.all (fun x => x.toNat ≤ 1000000) then some bank else none

/-! ## The settings item -/

/-- The configuration of a channel (Table 5-1) less its hold flag. -/
structure ChannelConfig where
  divisor : Nat
  window : Nat
  timeout : Nat
  reconnect : Bool
  reclose : Bool
deriving DecidableEq, Repr

/-- The defaults of Table 5-1. -/
def ChannelConfig.default : ChannelConfig where
  divisor := 1
  window := 600
  timeout := 250
  reconnect := false
  reclose := false

/-- Whether a configuration lies in the ranges of Table 5-1. -/
def ChannelConfig.inRange (c : ChannelConfig) : Bool :=
  1 ≤ c.divisor && c.divisor ≤ 4096 && 1 ≤ c.window && c.window ≤ 3600 && 20 ≤ c.timeout && c.timeout ≤ 2000

/-- The content of the settings item (Table 7-1). -/
structure Settings where
  configs : Vector ChannelConfig 8
  holds : Vector Bool 8
  band : Band
  counters : Vector Generation 32
deriving DecidableEq, Repr

/-- The defaults that restore loads without a settings item (R140). -/
def Settings.default : Settings where
  configs := Vector.replicate 8 .default
  holds := Vector.replicate 8 false
  band := 0
  counters := Vector.replicate 32 0#11

/-- One channel's configuration as bytes of the settings item. -/
def configBytes (c : ChannelConfig) : List Byte :=
  count16 c.divisor ++ count16 c.window ++ count16 c.timeout ++ [yesNo c.reconnect, yesNo c.reclose]

/-- A set of channels as one byte, bit n for channel n. -/
def channelSet (flags : Vector Bool 8) : BitVec 8 :=
  channels.foldl (fun acc n => setWith acc n.val flags[n]) 0#8

/-- The content of the settings item as bytes.  DESIGN CHOICE (log 12): the byte layout, in the order of
Table 7-1. -/
def settingsBytes (x : Settings) : List Byte :=
  x.configs.toList.flatMap configBytes ++ [channelSet x.holds, count8 x.band.val]
    ++ x.counters.toList.flatMap (fun g => count16 g.toNat)

/-- One channel's configuration read from the settings item. -/
def configAt (bs : List Byte) (off : Nat) : ChannelConfig where
  divisor := fieldAt bs off 2
  window := fieldAt bs (off + 2) 2
  timeout := fieldAt bs (off + 4) 2
  reconnect := byteAt bs (off + 6) == 1#8
  reclose := byteAt bs (off + 7) == 1#8

/-- A settings item's content, if it is well formed (R139). -/
def parseSettings (bs : List Byte) : Option Settings :=
  let configs : Vector ChannelConfig 8 := Vector.ofFn fun n => configAt bs (8 * n.val)
  let yesNoOk := channels.all fun n => byteAt bs (8 * n.val + 6) ≤ 1#8 && byteAt bs (8 * n.val + 7) ≤ 1#8
  let countersOk := slots.all fun i => fieldAt bs (66 + 2 * i.val) 2 ≤ 2047
  if bs.length = 130 ∧ yesNoOk ∧ channels.all (fun n => configs[n].inRange) ∧ (byteAt bs 65).toNat < 4
      ∧ countersOk then
    some
      { configs := configs
        holds := Vector.ofFn fun n => setHas (byteAt bs 64) n.val
        band := BitVec.toFin ((byteAt bs 65).setWidth 2)
        counters := Vector.ofFn fun i => BitVec.ofNat 11 (fieldAt bs (66 + 2 * i.val) 2) }
  else none

/-! ## Reading an account item -/

/-- What restore takes from a valid copy of an account item (R141). -/
structure Loaded where
  life : Life
  generation : Generation
  body : Body
deriving DecidableEq, Repr

/-- The life state of a committed record: FREE, WAITING, LIVE or SETTLED (R139). -/
def committedLife (b : Byte) : Option Life :=
  if b = 1#8 then some .free
  else if b = 2#8 then some .waiting
  else if b = 3#8 then some .live
  else if b = 4#8 then some .settled
  else none

/-- The length that a voucher count and a close marker declare (10.5). -/
def declaredLength (vouchers : Nat) (closed : Bool) : Nat :=
  (if closed then 66 else 61) + 4 * vouchers

/-- The body that serialised bytes carry, undefined flag bits cleared (R184). -/
def bodyAt (bs : List Byte) : Body :=
  let k := (byteAt bs 57).toNat
  { channel := byteAt bs 4
    reference := referenceAt bs 5
    tariff := byteAt bs 13
    credit := byteAt bs 14
    emergency := byteAt bs 15
    flags := byteAt bs 16 &&& 1#8
    balance := field32 bs 17
    threshold := field32 bs 21
    allowance := field32 bs 25
    opening := field32 bs 29
    credited := field48 bs 33
    debited := field48 bs 39
    quanta := field32 bs 45
    version := field16 bs 49
    serial := field32 bs 51
    lastLevy := field16 bs 55
    vouchers := (List.range k).map fun j => field32 bs (58 + 4 * j)
    closing :=
      if byteAt bs (58 + 4 * k) = 1#8 then
        some { balance := field32 bs (59 + 4 * k), reason := byteAt bs (63 + 4 * k) }
      else none }

/-- An account item's content, if it is well formed for slot i (R139).  Absent fields are loaded in their
absent form (R10). -/
def parseAccount (i : Slot) (bs : List Byte) : Option Loaded :=
  let k := (byteAt bs 57).toNat
  let marker := byteAt bs (58 + 4 * k)
  let handle := field16 bs 0
  let b := bodyAt bs
  let generation := BitVec.ofNat 11 (generationOf handle)
  match committedLife (byteAt bs 2) with
  | none => none
  | some life =>
    if k ≤ 4 ∧ marker ≤ 1#8 ∧ bs.length = declaredLength k (marker == 1#8) ∧ slotOf handle = i
        ∧ (life = .free ↔ generationOf handle = 0)
        ∧ byteAt bs 3 ≤ 6#8 ∧ b.channel ≤ 7#8 ∧ b.tariff ≤ 3#8 ∧ b.credit ≤ 4#8 ∧ b.emergency ≤ 4#8
        ∧ b.closing.all (fun c => c.reason ≤ 1#8) then
      some { life := life, generation := generation, body := b.shown life }
    else none

end Sys2Proof.Machine
end

