-- ==== Sys2Proof/Machine/State.lean ====
section
/-! DEFINITION. State: every piece of state that the manual gives the nine blocks, the hand-offs that are in
flight between them, the input levels, and the queue of waiting commands; and State.reset.  An item that the
manual calls present only in some states is an argument of those states. -/

namespace Sys2Proof.Machine

/-! ## Requests and claims -/

/-- An admitted request (R167): tag, code and payload, whose length is L. -/
structure Request where
  tag : Byte
  code : Byte
  payload : List Byte
deriving DecidableEq, Repr

/-- A response (R171). -/
structure Response where
  tag : Byte
  code : Byte
  outcome : OutcomeCode
  payload : List Byte
deriving DecidableEq, Repr

/-- An owner's answer to a claim: an outcome and a payload (R176). -/
structure Reply where
  outcome : OutcomeCode
  payload : List Byte
deriving DecidableEq, Repr

/-- The fields of OPEN (2.3). -/
structure OpenArgs where
  channel : Channel
  reference : Reference
  tariff : Byte
  threshold : BitVec 32
  allowance : BitVec 32
  opening : BitVec 32
deriving DecidableEq, Repr

/-- A REWRITE target state (2.6). -/
inductive Target where
  | waiting
  | live
  | settled
deriving DecidableEq, Repr

/-- The fields of REWRITE (2.6). -/
structure RewriteArgs where
  handle : Handle
  target : Target
  channel : Channel
  reference : Reference
  tariff : Byte
  threshold : BitVec 32
  allowance : BitVec 32
  expected : Option (BitVec 16)
deriving DecidableEq, Repr

/-- The fields of TOP_UP (3.6). -/
structure TopUpArgs where
  handle : Handle
  voucher : BitVec 32
  amount : BitVec 32
  expected : Option (BitVec 16)
deriving DecidableEq, Repr

/-- The fields of ADJUST (3.7). -/
structure AdjustArgs where
  handle : Handle
  expected : BitVec 16
  amount : BitVec 32
deriving DecidableEq, Repr

/-- The fields of SET_LIMITS (3.8). -/
structure LimitsArgs where
  handle : Handle
  tariff : Byte
  threshold : BitVec 32
  allowance : BitVec 32
  expected : Option (BitVec 16)
deriving DecidableEq, Repr

/-- A cause set over all sixteen kinds (R153): one byte for each subject kind. -/
structure CauseMask where
  slot : BitVec 8
  channel : BitVec 8
  device : BitVec 8
deriving DecidableEq, Repr

/-- A validated request with its fields, as the Request Engine issues it to its owner (R176). -/
inductive Claim where
  | identify
  | readDevice
  | softReset
  | openAccount (a : OpenArgs)
  | lookup (reference : Reference)
  | readAccount (h : Handle)
  | survey (start : Slot)
  | close (h : Handle) (expected : Option (BitVec 16))
  | release (h : Handle)
  | rewrite (a : RewriteArgs)
  | discard (h : Handle)
  | topUp (a : TopUpArgs)
  | adjust (a : AdjustArgs)
  | setLimits (a : LimitsArgs)
  | setBand (band : Band)
  | setPrice (tariff : Tariff) (band : Band) (price : BitVec 16)
  | setStanding (tariff : Tariff) (charge : BitVec 32)
  | readTariff (active : Bool) (tariff : Tariff)
  | commitTariffs
  | levy (number : BitVec 16)
  | cancelLevy
  | configureChannel (n : Channel) (config : ChannelConfig)
  | readChannel (n : Channel)
  | billUnbilled (n : Channel) (h : Handle)
  | setHold (mask : BitVec 8) (set : Bool)
  | reconnect (n : Channel)
  | clearFault (n : Channel)
  | fetchAttention
  | ackAttention (subject : Subject) (causes : BitVec 8)
  | setAttentionMask (mask : CauseMask)
deriving DecidableEq, Repr

/-- Where the request that the Engine serves stands (R176): a claim waits at its owner; a request with
several owners collects their parts; or its answer is complete. -/
inductive Phase where
  | claim (c : Claim)
  | device (retention : Option (List Byte × List Byte)) (levy store : Option (List Byte))
  | channel (n : Channel) (quantizer supply : Option (List Byte))
  | hold (mask : BitVec 8) (set : Bool) (flags : Vector (Option Bool) 8)
  | answered (r : Reply)
deriving DecidableEq, Repr

/-- The request that the Engine holds in SERVING (R173). -/
structure Serving where
  request : Request
  phase : Phase
deriving DecidableEq, Repr

/-! ## Account Store -/

/-- A BILL_UNBILLED that has passed its checks and waits for the quantizer's count (R97). -/
structure Billing where
  channel : Channel
  slot : Slot
  count : Option Nat
deriving DecidableEq, Repr

/-- The Account Store: slot table, succession lists of handles, open serial counter (R1, R4, R24), and the
claim that waits for a count (R97). -/
structure Store where
  slots : Vector SlotState 32
  lists : Vector (List Handle) 8
  openSerial : BitVec 32
  billing : Option Billing
deriving DecidableEq, Repr

/-! ## Tariff Unit and Levy Engine -/

/-- The Tariff Unit (R66). -/
structure TariffUnit where
  active : Bank
  shadow : Bank
  band : Band
deriving DecidableEq, Repr

/-- The walk in progress (R75). -/
structure WalkData where
  number : BitVec 16
  cursor : Nat
  charged : Nat
  already : Nat
deriving DecidableEq, Repr

/-- The walk state; number, cursor and counts are absent in IDLE (R75). -/
inductive Walk where
  | idle
  | walking (w : WalkData)
  | stopping (w : WalkData)
deriving DecidableEq, Repr

/-- A levy claim (R77). -/
structure LevyClaim where
  number : BitVec 16
  cursor : Nat
deriving DecidableEq, Repr

/-- The result of a levy claim (R77). -/
inductive LevyResult where
  | charged (i : Slot)
  | already (i : Slot)
  | refused (i : Slot)
  | exhausted
deriving DecidableEq, Repr

/-- The record of the most recent walk to end (R75). -/
structure WalkSummary where
  number : BitVec 16
  charged : Nat
  already : Nat
  complete : Bool
deriving DecidableEq, Repr

/-- The Levy Engine (R75).  A claim is outstanding exactly while it waits at the Store (`claim`) or its
result is on its way back (`result`). -/
structure LevyEngine where
  walk : Walk
  claim : Option LevyClaim
  result : Option LevyResult
  last : Option WalkSummary
deriving DecidableEq, Repr

/-! ## Channel Quantizers -/

/-- A pulse or button recogniser (R87, R112), with the time in ms since the assertion in qualifying. -/
inductive Recogniser where
  | waitDeassert
  | waitAssert
  | qualifying (elapsed : Nat)
deriving DecidableEq, Repr

/-- The quantizer state with the partial count and the time left of the window in ms (R85): both are present
exactly in ACCUMULATING. -/
inductive Accumulation where
  | idle
  | accumulating (count left : Nat)
deriving DecidableEq, Repr

/-- The result of a debit claim (R52). -/
inductive DebitResult where
  | taken
  | refused
deriving DecidableEq, Repr

/-- A Channel Quantizer (R85, R86).  Outstanding debit claims are those that wait at the Store (`debits`) and
those whose results are on their way back (`results`, oldest first) (R92). -/
structure Quantizer where
  config : ChannelConfig
  accumulation : Accumulation
  creep : Nat
  unbilled : Nat
  recogniser : Recogniser
  debits : Nat
  results : List DebitResult
deriving DecidableEq, Repr

/-! ## Supply Controllers -/

/-- An occupant view, and the content of a notice (R28, R104).  A credit state or emergency status is `none`
where the record's byte holds no valid code. -/
inductive View where
  | vacant
  | live (h : Handle) (credit : Option Credit) (emergency : Option Emergency)
  | quarantined
deriving DecidableEq, Repr

/-- The result of an emergency engage claim (R55). -/
inductive EngageResult where
  | declined
  | taken (credit : Option Credit) (emergency : Option Emergency)
deriving DecidableEq, Repr

/-- The outstanding engage claim (R114): the handle sent and whether it was sent from OPEN or from CLOSED.  It
waits at the Store until `answer` holds its result, which is then on its way back. -/
structure Engage where
  handle : Handle
  fromClosed : Bool
  answer : Option EngageResult
deriving DecidableEq, Repr

/-- A Supply Controller (R101, R103), with the notices sent to it and not yet taken, oldest first (R104), and
an adopt command that waits (R145). -/
structure Supply where
  state : SupplyState
  drive : Bool
  feedback : Bool
  feedbackRun : Nat
  timer : Option Nat
  hold : Bool
  view : View
  engage : Option Engage
  button : Recogniser
  notices : List View
  adopt : Bool
deriving DecidableEq, Repr

/-! ## Attention Unit -/

/-- An attention entry (R149): a subject and its cause set, read by the column of the subject's kind. -/
structure Entry where
  subject : Subject
  causes : BitVec 8
deriving DecidableEq, Repr

/-- A message on its way to the Attention Unit: a raise of a block, or a removal by the Store (R151). -/
inductive AttentionMessage where
  | raised (source : Block) (r : Raise)
  | removed (i : Slot)
deriving DecidableEq, Repr

/-- The Attention Unit (R149, R152), with the messages on their way to it in the order of their issue. -/
structure Attention where
  list : List Entry
  mask : CauseMask
  attn : Bool
  inbox : List AttentionMessage
deriving DecidableEq, Repr

/-! ## Retention Unit -/

/-- One value for each of the 34 retained items (R124). -/
structure PerItem (α : Type) where
  accounts : Vector α 32
  tariff : α
  settings : α
deriving DecidableEq, Repr

/-- The two copies of an item in the array (R125). -/
structure Copies where
  a : NvCopy
  b : NvCopy
deriving DecidableEq, Repr

/-- The class of a copy, with the serial of a valid one (R125). -/
inductive CopyClass where
  | blank
  | valid (serial : BitVec 32)
  | invalid
deriving DecidableEq, Repr

/-- The copy directory's entry for an item (R125). -/
structure DirectoryEntry where
  a : CopyClass
  b : CopyClass
  latest : Option CopyId
deriving DecidableEq, Repr

/-- A snapshot being gathered (R128), with the parts that have arrived. -/
inductive Gathering where
  | account (i : Slot) (content : Option (List Byte))
  | tariff (bank : Option Bank)
  | settings (counters : Option (Vector Generation 32)) (band : Option Band)
      (configs : Vector (Option ChannelConfig) 8) (holds : Vector (Option Bool) 8)
deriving DecidableEq, Repr

/-- A write under way (R130), with the time in ms since it started (R131). -/
structure Write where
  item : Item
  copy : CopyId
  serial : BitVec 32
  content : List Byte
  elapsed : Nat
deriving DecidableEq, Repr

/-- The commit engine (R128). -/
inductive CommitEngine where
  | idle
  | snapshot (g : Gathering)
  | writing (w : Write)
deriving DecidableEq, Repr

/-- The stage of restore that comes next (R138), `done` outside RESTORING. -/
inductive RestoreStage where
  | classify
  | settings
  | accounts (next : Nat)
  | references
  | occupancy
  | promotion
  | summary
  | adoption
  | done
deriving DecidableEq, Repr

/-- The restore summary (R146). -/
structure RestoreSummary where
  kind : ResetKind
  restored : Nat
  blank : Nat
  lost : Nat
  quarantined : Nat
  promoted : Nat
  torn : Nat
  settings : ItemOutcome
  tariff : ItemOutcome
deriving DecidableEq, Repr

/-- Which blocks have taken the stop and answered it (R137). -/
structure StopAnswers where
  store : Bool
  tariff : Bool
  quantizers : Vector Bool 8
  supplies : Vector Bool 8
deriving DecidableEq, Repr

/-- The Retention Unit (R124 to R147): the array; copy directory (absent while empty), commit queue, barred
set, commit engine, commit serial, write-fault count; power state and PFW level with its filter; the kind of
the last reset, the stage of restore, the counts of the restore under way and the stored summary; the stop
(absent until it is sent); and the dirtyings on their way, in the order of their issue. -/
structure Retention where
  array : PerItem Copies
  directory : Option (PerItem DirectoryEntry)
  queue : List Item
  barred : Vector Bool 32
  engine : CommitEngine
  commitSerial : BitVec 32
  writeFaults : Nat
  power : Power
  pfw : Bool
  pfwRun : Nat
  kind : ResetKind
  stage : RestoreStage
  tally : RestoreSummary
  summary : Option RestoreSummary
  stop : Option StopAnswers
  inbox : List (Block × Item)
deriving DecidableEq, Repr

/-! ## Host Link -/

/-- The Host Link (R161 to R171): frame assembly state, the status byte as last loaded, the byte that is being shifted
out on MISO, the complete bytes shifted out in this frame, the bits of an incomplete byte, the stored bytes of a frame
(at most 101) and the count of its complete bytes, the response that a fetch selected, the gap timer, the result field
and the two queues. -/
structure Link where
  frame : FrameState
  status : BitVec 8
  out : Byte
  sent : List Byte
  shift : List Bool
  stored : List Byte
  count : Nat
  selected : Option Response
  gap : Option Nat
  result : FrameResult
  requests : List Request
  responses : List Response
deriving DecidableEq, Repr

/-! ## The whole part -/

/-- The state of the part: Account Store, Tariff Unit, Levy Engine, Channel Quantizers, Supply Controllers,
Attention Unit, Retention Unit, Host Link, the request that the Request Engine serves (absent in IDLE), the
field inputs at the last sample, the samples to come (log 4), and the waiting commands, first in, first
out. -/
structure State where
  store : Store
  tu : TariffUnit
  le : LevyEngine
  cq : Vector Quantizer 8
  sc : Vector Supply 8
  au : Attention
  ru : Retention
  hl : Link
  re : Option Serving
  pins : Pins
  samples : List Pins
  pending : List Instr
deriving DecidableEq, Repr

/-! ## Outcomes of a step -/

/-- Why a step stops with a fault. -/
inductive Fault where
  /-- Raised by the meaning of a command whose operands fail `Instr.WellFormed`: it is no command of the
  part.  Safe: nothing is claimed of it. -/
  | illFormed
deriving DecidableEq, Repr

/-- Why a step is refused. -/
inductive Refusal where
  /-- Raised by exec's arm of a command that has no meaning yet.  Safe.  No arm of this model raises it. -/
  | notModelled (mnemonic : String)
deriving DecidableEq, Repr

/-- The outcome of a step. -/
abbrev Result := Host.Outcome State Fault Refusal

/-! ## Values after a reset -/

/-- The Store's working state before restore (R22). -/
def Store.reset : Store where
  slots := Vector.ofFn fun i => freeForm i 0#11
  lists := Vector.replicate 8 []
  openSerial := 0#32
  billing := none

/-- The Tariff Unit before restore loads it (R74).  DESIGN CHOICE (log 13): the values that stand until then
are the defaults. -/
def TariffUnit.reset : TariffUnit where
  active := .zero
  shadow := .zero
  band := 0

/-- The Levy Engine after every reset (R75). -/
def LevyEngine.reset : LevyEngine where
  walk := .idle
  claim := none
  result := none
  last := none

/-- A Channel Quantizer after every reset (R99), its configuration at the defaults until restore loads it
(log 13). -/
def Quantizer.reset : Quantizer where
  config := .default
  accumulation := .idle
  creep := 0
  unbilled := 0
  recogniser := .waitDeassert
  debits := 0
  results := []

/-- A Supply Controller after a reset (R121): the drive latch as the reset leaves it, the feedback level from
the first sample. -/
def Supply.reset (drive feedback : Bool) : Supply where
  state := .adopting
  drive := drive
  feedback := feedback
  feedbackRun := 0
  timer := none
  hold := false
  view := .vacant
  engage := none
  button := .waitDeassert
  notices := []
  adopt := false

/-- The empty cause mask (R153). -/
def CauseMask.empty : CauseMask where
  slot := 0#8
  channel := 0#8
  device := 0#8

/-- The Attention Unit after every reset (R158). -/
def Attention.reset : Attention where
  list := []
  mask := .empty
  attn := false
  inbox := []

/-- The counts of a restore that has not begun. -/
def RestoreSummary.start (kind : ResetKind) : RestoreSummary where
  kind := kind
  restored := 0
  blank := 0
  lost := 0
  quarantined := 0
  promoted := 0
  torn := 0
  settings := .blank
  tariff := .blank

/-- The Retention Unit after a reset (R134, R135, R138), over what the array holds. -/
def Retention.reset (kind : ResetKind) (pfw : Bool) (array : PerItem Copies) : Retention where
  array := array
  directory := none
  queue := []
  barred := Vector.replicate 32 false
  engine := .idle
  commitSerial := 0#32
  writeFaults := 0
  power := .restoring
  pfw := pfw
  pfwRun := 0
  kind := kind
  stage := .classify
  tally := .start kind
  summary := none
  stop := none
  inbox := []

/-- The Host Link after a reset (R162, R179).  DESIGN CHOICE (log 13): the status byte and the byte being
shifted out, which are loaded afresh at the next assertion of CSN, stand at 0. -/
def Link.reset (csn : Bool) : Link where
  frame := if csn then .waitDeassert else .idle
  status := 0#8
  out := 0#8
  sent := []
  shift := []
  stored := []
  count := 0
  selected := none
  gap := none
  result := .accepted
  requests := []
  responses := []

/-- The array of a new part: every copy blank (R140). -/
def blankArray : PerItem Copies where
  accounts := Vector.replicate 32 { a := .blank, b := .blank }
  tariff := { a := .blank, b := .blank }
  settings := { a := .blank, b := .blank }

/-- Every field input deasserted. -/
def idlePins : Pins where
  pls := 0#8
  btn := 0#8
  fbk := 0#8
  pfw := false

/-- The machine right after its first power-on reset, before restore.  DESIGN CHOICE (log 5): the array is that
of a new part, every input is deasserted, and no sample and no command waits. -/
def State.reset : State where
  store := .reset
  tu := .reset
  le := .reset
  cq := Vector.replicate 8 .reset
  sc := Vector.replicate 8 (.reset false false)
  au := .reset
  ru := .reset .powerOn false blankArray
  hl := .reset false
  re := none
  pins := idlePins
  samples := []
  pending := []

end Sys2Proof.Machine
end

