-- ==== Sys2Proof/Machine/Flags.lean ====
section
/-! DEFINITION. The flag computations: the emergency status and credit state of an account (R48 to R51), the
arithmetic of a charge with its SATURATED flag (R45, R46), the status byte of the link (R165) and the causes
that a subject's set holds (Table 10-12). -/

namespace Sys2Proof.Machine

/-! ## Credit -/

/-- The emergency status that a record holds.  DESIGN CHOICE (log 9): a byte that is no code of a status
stands for a free value. -/
def Body.status (b : Body) : Emergency := (emergencyOfCode b.emergency).getD (Config.unstatedStatus b.emergency)

/-- The emergency status step (R49), from the balance, the allowance and the status found.  DEDUCED (log 35): where a
charge spends an emergency and a credit leaves the balance at or below 0, the two orders of R62 end in different
statuses, and so in different credit states, as R49 and R50 have it. -/
def emergencyStep (rising : Bool) (balance : Int) (allowance : Nat) (found : Emergency) : Emergency :=
  match found with
  | .inUse =>
    if rising ∧ balance > 0 then .available else if balance ≤ -(allowance : Int) then .spent else .inUse
  | .spent => if balance > 0 then .available else .spent
  | .available => .available
  | .none => .none

/-- The plain rule of R50. -/
def plainCredit (balance : Int) (threshold : Nat) : Credit :=
  if balance > threshold then .normal else if balance > 0 then .low else .exhausted

/-- The credit state (R50), from the status that the emergency status step left. -/
def creditFound (balance : Int) (threshold : Nat) (status : Emergency) : Credit :=
  match status with
  | .inUse => if balance ≤ 0 then .emergency else plainCredit balance threshold
  | .spent => if balance ≤ 0 then .exhausted else plainCredit balance threshold
  | .available | .none => plainCredit balance threshold

/-- The status after the step, for a record. -/
def Body.statusAfter (b : Body) (rising : Bool) : Emergency :=
  emergencyStep rising b.balance.toInt b.allowance.toNat b.status

/-- The record after the emergency status step alone, as a WAITING account takes it (R51). -/
def Body.stepped (b : Body) (rising : Bool) : Body :=
  { b with emergency := emergencyCode (b.statusAfter rising) }

/-- The credit state that the evaluation of a record finds (R50). -/
def Body.creditAfter (b : Body) (rising : Bool) : Credit :=
  creditFound b.balance.toInt b.threshold.toNat (b.statusAfter rising)

/-- The record after its credit evaluation (R49, R50). -/
def Body.evaluated (b : Body) (rising : Bool) : Body :=
  { b with emergency := emergencyCode (b.statusAfter rising), credit := creditCode (b.creditAfter rising) }

/-- The record after the credit evaluation of a promotion (R27, R48).  DEDUCED (log 34): R27 and 3.3.3 keep the emergency
status of a promoted account where R48 and R49 would step it; the status is kept, and the credit state is the one
that the stepped status gives. -/
def Body.promoted (b : Body) : Body := { b with credit := creditCode (b.creditAfter false) }

/-- The cause of entering a credit state (R51). -/
def enteredCause : Credit → Option SlotCause
  | .normal => none
  | .low => some .lowCredit
  | .emergency => some .emergency
  | .exhausted => some .exhausted

/-! ## Charges -/

/-- Whether SATURATED is set: bit 0 of the flags (Table 10-8). -/
def Body.saturated (b : Body) : Bool := b.flags.getLsbD 0

/-- Whether a charge of `amount` is clamped (R46). -/
def Body.clamps (b : Body) (amount : Nat) : Bool :=
  b.debited.toNat + amount > totalMax || b.balance.toInt - amount < balMin

/-- The record after a charge of `amount` with `quanta` counted (R46).  DEDUCED (log 36): a restored balance above
BAL_MAX is charged as it stands (R65) and may stay above it; a charge has no clamp at that bound.  DEDUCED (log 38): a
restored balance below BAL_MIN is clamped by every charge, one of amount 0 included, and SATURATED is set. -/
def Body.charged (b : Body) (amount quanta : Nat) : Body :=
  { b with
    debited := BitVec.ofNat 48 (min (b.debited.toNat + amount) totalMax)
    balance := BitVec.ofInt 32 (max (b.balance.toInt - amount) balMin)
    quanta := b.quanta + BitVec.ofNat 32 quanta
    flags := if b.clamps amount then b.flags ||| 1#8 else b.flags }

/-! ## The status byte -/

/-- The status byte (R165, Table 10-4), from the power state, the two queues, the attention list and the
result field. -/
def statusByte (s : State) : BitVec 8 :=
  (if s.ru.power = .run ∨ s.ru.power = .holdup then 0x80#8 else 0#8)
    ||| (if s.hl.responses.isEmpty then 0#8 else 0x40#8)
    ||| (if s.hl.requests.length < queueDepth then 0x20#8 else 0#8)
    ||| (if s.au.list.isEmpty then 0#8 else 0x10#8)
    ||| (if s.ru.power = .holdup then 0x08#8 else 0#8)
    ||| frameResultCode s.hl.result

/-! ## Cause sets -/

/-- The part of a mask that concerns a subject's kind (R153). -/
def CauseMask.setFor (mask : CauseMask) : Subject → BitVec 8
  | .slot _ => mask.slot
  | .channel _ => mask.channel
  | .device => mask.device

/-- Whether a mask names a raise's cause (R150). -/
def CauseMask.hides (mask : CauseMask) (r : Raise) : Bool := setHas (mask.setFor (raiseSubject r)) (raiseBit r)

end Sys2Proof.Machine
end

