-- ==== Sys2Proof/Machine/Operands.lean ====
section
/-! DEFINITION. The operand forms: the request codes, the payload lengths and the fields of each request
(Tables 10-2 and 10-5), the range checks that the Request Engine makes, and its validation of a request
(R174, R175, R182). -/

namespace Sys2Proof.Machine

/-- The requests (Table 9-1). -/
inductive RequestKind where
  | identify
  | readDevice
  | softReset
  | openAccount
  | lookup
  | readAccount
  | survey
  | close
  | release
  | rewrite
  | discard
  | topUp
  | adjust
  | setLimits
  | setBand
  | setPrice
  | setStanding
  | readTariff
  | commitTariffs
  | levy
  | cancelLevy
  | configureChannel
  | readChannel
  | billUnbilled
  | setHold
  | reconnect
  | clearFault
  | fetchAttention
  | ackAttention
  | setAttentionMask
deriving DecidableEq, Repr

/-- The request that a code names (Table 10-5). -/
def requestKind (code : Byte) : Option RequestKind :=
  match code.toNat with
  | 0x01 => some .identify
  | 0x02 => some .readDevice
  | 0x03 => some .softReset
  | 0x10 => some .openAccount
  | 0x11 => some .lookup
  | 0x12 => some .readAccount
  | 0x13 => some .survey
  | 0x14 => some .close
  | 0x15 => some .release
  | 0x16 => some .rewrite
  | 0x17 => some .discard
  | 0x20 => some .topUp
  | 0x21 => some .adjust
  | 0x22 => some .setLimits
  | 0x30 => some .setBand
  | 0x31 => some .setPrice
  | 0x32 => some .setStanding
  | 0x33 => some .readTariff
  | 0x34 => some .commitTariffs
  | 0x35 => some .levy
  | 0x36 => some .cancelLevy
  | 0x40 => some .configureChannel
  | 0x41 => some .readChannel
  | 0x42 => some .billUnbilled
  | 0x50 => some .setHold
  | 0x51 => some .reconnect
  | 0x52 => some .clearFault
  | 0x60 => some .fetchAttention
  | 0x61 => some .ackAttention
  | 0x62 => some .setAttentionMask
  | _ => none

/-- The payload lengths that a request allows (Table 10-5). -/
def allowedLengths : RequestKind → List Nat
  | .identify | .readDevice | .softReset | .commitTariffs | .cancelLevy | .fetchAttention => [0]
  | .openAccount => [22]
  | .lookup => [8]
  | .readAccount | .release | .discard | .readTariff | .levy | .setHold => [2]
  | .survey | .setBand | .readChannel | .reconnect | .clearFault => [1]
  | .close => [2, 4]
  | .rewrite => [21, 23]
  | .topUp => [10, 12]
  | .adjust => [8]
  | .setLimits => [11, 13]
  | .setPrice => [4]
  | .setStanding => [5]
  | .configureChannel => [9]
  | .billUnbilled | .ackAttention | .setAttentionMask => [3]

/-- Whether a request is of the class that changes state (Table 9-1). -/
def changesState : RequestKind → Bool
  | .identify | .readDevice | .lookup | .readAccount | .survey | .readTariff | .readChannel | .fetchAttention
  | .ackAttention => false
  | .softReset | .openAccount | .close | .release | .rewrite | .discard | .topUp | .adjust | .setLimits
  | .setBand | .setPrice | .setStanding | .commitTariffs | .levy | .cancelLevy | .configureChannel
  | .billUnbilled | .setHold | .reconnect | .clearFault | .setAttentionMask => true

/-! ## Single fields -/

/-- A channel field (0 to 7). -/
def channelField (b : Byte) : Option Channel :=
  if h : b.toNat < 8 then some ⟨b.toNat, h⟩ else none

/-- A slot field (0 to 31). -/
def slotField (b : Byte) : Option Slot :=
  if h : b.toNat < 32 then some ⟨b.toNat, h⟩ else none

/-- A tariff or band field (0 to 3). -/
def quarterField (b : Byte) : Option (Fin 4) :=
  if h : b.toNat < 4 then some ⟨b.toNat, h⟩ else none

/-- A yes/no field (R180). -/
def yesNoField (b : Byte) : Option Bool :=
  if b = 0#8 then some false else if b = 1#8 then some true else none

/-- A low threshold (0 to 100,000,000). -/
def thresholdField (x : BitVec 32) : Option (BitVec 32) :=
  if x.toNat ≤ 100000000 then some x else none

/-- An emergency allowance (0 to 10,000,000). -/
def allowanceField (x : BitVec 32) : Option (BitVec 32) :=
  if x.toNat ≤ 10000000 then some x else none

/-- An opening balance (-100,000,000 to +100,000,000). -/
def openingField (x : BitVec 32) : Option (BitVec 32) :=
  if -100000000 ≤ x.toInt ∧ x.toInt ≤ 100000000 then some x else none

/-- A tariff field kept as the byte that the record holds. -/
def tariffByteField (b : Byte) : Option Byte :=
  if b.toNat < 4 then some b else none

/-- A REWRITE target state (10.1). -/
def targetField (b : Byte) : Option Target :=
  if b = 2#8 then some .waiting else if b = 3#8 then some .live else if b = 4#8 then some .settled else none

/-- The optional expected version: the last two bytes of the longer of two payload lengths (R182). -/
def expectedField (payload : List Byte) (off : Nat) : Option (BitVec 16) :=
  if off < payload.length then some (field16 payload off) else none

/-- A subject kind and number (R186). -/
def subjectField (kind number : Byte) : Option Subject :=
  if kind = 1#8 then (slotField number).map .slot
  else if kind = 2#8 then (channelField number).map .channel
  else if kind = 3#8 ∧ number = 0#8 then some .device
  else none

/-- A cause set for a subject of the kind of `x`, without undefined bits (R186). -/
def causesField (x : Subject) (set : Byte) : Option (BitVec 8) :=
  if set &&& undefinedCauses x = 0#8 then some set else none

/-! ## Whole payloads -/

/-- The claim that a payload of an allowed length carries, or none if a field is out of range (R182). -/
def claimOf (kind : RequestKind) (p : List Byte) : Option Claim :=
  match kind with
  | .identify => some .identify
  | .readDevice => some .readDevice
  | .softReset => some .softReset
  | .openAccount => do
    let channel ← channelField (byteAt p 0)
    let tariff ← tariffByteField (byteAt p 9)
    let threshold ← thresholdField (field32 p 10)
    let allowance ← allowanceField (field32 p 14)
    let opening ← openingField (field32 p 18)
    some (.openAccount
      { channel := channel, reference := referenceAt p 1, tariff := tariff, threshold := threshold
        allowance := allowance, opening := opening })
  | .lookup => some (.lookup (referenceAt p 0))
  | .readAccount => some (.readAccount (field16 p 0))
  | .survey => do some (.survey (← slotField (byteAt p 0)))
  | .close => some (.close (field16 p 0) (expectedField p 2))
  | .release => some (.release (field16 p 0))
  | .rewrite => do
    let target ← targetField (byteAt p 2)
    let channel ← channelField (byteAt p 3)
    let tariff ← tariffByteField (byteAt p 12)
    let threshold ← thresholdField (field32 p 13)
    let allowance ← allowanceField (field32 p 17)
    some (.rewrite
      { handle := field16 p 0, target := target, channel := channel, reference := referenceAt p 4
        tariff := tariff, threshold := threshold, allowance := allowance, expected := expectedField p 21 })
  | .discard => some (.discard (field16 p 0))
  | .topUp =>
    let voucher := field32 p 2
    let amount := field32 p 6
    if voucher ≠ 0#32 ∧ 1 ≤ amount.toNat ∧ amount.toNat ≤ 100000000 then
      some (.topUp { handle := field16 p 0, voucher := voucher, amount := amount, expected := expectedField p 10 })
    else none
  | .adjust =>
    let amount := field32 p 4
    if amount ≠ 0#32 ∧ -100000000 ≤ amount.toInt ∧ amount.toInt ≤ 100000000 then
      some (.adjust { handle := field16 p 0, expected := field16 p 2, amount := amount })
    else none
  | .setLimits => do
    let tariff ← tariffByteField (byteAt p 2)
    let threshold ← thresholdField (field32 p 3)
    let allowance ← allowanceField (field32 p 7)
    some (.setLimits
      { handle := field16 p 0, tariff := tariff, threshold := threshold, allowance := allowance
        expected := expectedField p 11 })
  | .setBand => do some (.setBand (← quarterField (byteAt p 0)))
  | .setPrice => do
    some (.setPrice (← quarterField (byteAt p 0)) (← quarterField (byteAt p 1)) (field16 p 2))
  | .setStanding => do
    let tariff ← quarterField (byteAt p 0)
    if (field32 p 1).toNat ≤ 1000000 then some (.setStanding tariff (field32 p 1)) else none
  | .readTariff =>
    if byteAt p 0 = 1#8 ∨ byteAt p 0 = 2#8 then do
      some (.readTariff (byteAt p 0 == 1#8) (← quarterField (byteAt p 1)))
    else none
  | .commitTariffs => some .commitTariffs
  | .levy => if field16 p 0 = 0#16 then none else some (.levy (field16 p 0))
  | .cancelLevy => some .cancelLevy
  | .configureChannel => do
    let channel ← channelField (byteAt p 0)
    let reconnect ← yesNoField (byteAt p 7)
    let reclose ← yesNoField (byteAt p 8)
    let config : ChannelConfig :=
      { divisor := fieldAt p 1 2, window := fieldAt p 3 2, timeout := fieldAt p 5 2
        reconnect := reconnect, reclose := reclose }
    if config.inRange then some (.configureChannel channel config) else none
  | .readChannel => do some (.readChannel (← channelField (byteAt p 0)))
  | .billUnbilled => do some (.billUnbilled (← channelField (byteAt p 0)) (field16 p 1))
  | .setHold =>
    if byteAt p 1 = 1#8 ∨ byteAt p 1 = 2#8 then some (.setHold (byteAt p 0) (byteAt p 1 == 1#8)) else none
  | .reconnect => do some (.reconnect (← channelField (byteAt p 0)))
  | .clearFault => do some (.clearFault (← channelField (byteAt p 0)))
  | .fetchAttention => some .fetchAttention
  | .ackAttention => do
    let subject ← subjectField (byteAt p 0) (byteAt p 1)
    let causes ← causesField subject (byteAt p 2)
    some (.ackAttention subject causes)
  | .setAttentionMask =>
    let mask : CauseMask := { slot := byteAt p 0, channel := byteAt p 1, device := byteAt p 2 }
    if mask.slot &&& 0x80#8 = 0#8 ∧ mask.channel &&& 0xF0#8 = 0#8 ∧ mask.device &&& 0xE0#8 = 0#8 then
      some (.setAttentionMask mask)
    else none

/-- The first phase of a validated request: the parts of a request with several owners are asked for one by
one (R176); any other claim goes to its owner whole. -/
def firstPhase : Claim → Phase
  | .readDevice => .device none none none
  | .readChannel n => .channel n none none
  | .setHold mask set => .hold mask set (Vector.replicate 8 none)
  | c => .claim c

/-- The validation of a request in its order (R174).  SOFT_RESET passes step 4: its power check is made by
the Retention Unit (R177). -/
def validate (power : Power) (r : Request) : Phase :=
  match requestKind r.code with
  | none => .answered { outcome := .unknownRequest, payload := [] }
  | some kind =>
    if r.payload.length ∉ allowedLengths kind then .answered { outcome := .badLength, payload := [] }
    else
      match claimOf kind r.payload with
      | none => .answered { outcome := .badArgument, payload := [] }
      | some claim =>
        if power = .holdup ∧ changesState kind ∧ kind ≠ .softReset then
          .answered { outcome := .powerLow, payload := [] }
        else firstPhase claim

end Sys2Proof.Machine
end

