-- ==== Sys2Proof/Machine/Ops.lean ====
section
/-! DEFINITION. The shared operations: hand-offs between the blocks, the commit queue and engine's taking of
items, and the operations of the Account Store on records and succession lists (integrity check, quarantine,
evaluation, promotion, notices). -/

namespace Sys2Proof.Machine

/-! ## Places of the state -/

/-- What the Store holds for slot i. -/
def State.slotAt (s : State) (i : Slot) : SlotState := s.store.slots[i]

/-- The body of slot i. -/
def State.bodyAt (s : State) (i : Slot) : Body := (s.slotAt i).body

/-- The life state of slot i. -/
def State.lifeAt (s : State) (i : Slot) : Life := (s.slotAt i).life

/-- The succession list of channel n (R24). -/
def State.listAt (s : State) (n : Channel) : List Handle := s.store.lists[n]

/-- Slot i replaced. -/
def State.setSlot (s : State) (i : Slot) (x : SlotState) : State :=
  { s with store := { s.store with slots := s.store.slots.set i x } }

/-- Slot i written by a claim: its integrity word is recomputed (R11). -/
def State.putRecord (s : State) (i : Slot) (x : SlotState) : State := s.setSlot i (x.sealed i)

/-- The body of slot i written by a claim. -/
def State.putBody (s : State) (i : Slot) (b : Body) : State := s.putRecord i { s.slotAt i with body := b }

/-- The succession list of channel n replaced. -/
def State.setList (s : State) (n : Channel) (hs : List Handle) : State :=
  { s with store := { s.store with lists := s.store.lists.set n hs } }

/-- Channel Quantizer n replaced. -/
def State.setCq (s : State) (n : Channel) (q : Quantizer) : State := { s with cq := s.cq.set n q }

/-- Supply Controller n replaced. -/
def State.setSc (s : State) (n : Channel) (c : Supply) : State := { s with sc := s.sc.set n c }

/-- The Retention Unit replaced. -/
def State.setRu (s : State) (r : Retention) : State := { s with ru := r }

/-- The Attention Unit replaced. -/
def State.setAu (s : State) (a : Attention) : State := { s with au := a }

/-! ## Hand-offs -/

/-- A raise issued by a block: it is on its way to the Attention Unit (R18, R151). -/
def State.raise (s : State) (source : Block) (r : Raise) : State :=
  s.setAu { s.au with inbox := s.au.inbox ++ [.raised source r] }

/-- A removal of slot i's entry told by the Store (R157). -/
def State.removeEntry (s : State) (i : Slot) : State :=
  s.setAu { s.au with inbox := s.au.inbox ++ [.removed i] }

/-- A dirtying issued by a block: it is on its way to the Retention Unit (R18, R126). -/
def State.dirty (s : State) (source : Block) (i : Item) : State :=
  s.setRu { s.ru with inbox := s.ru.inbox ++ [(source, i)] }

/-- A slot cause raised by the Store. -/
def State.raiseSlot (s : State) (i : Slot) (c : SlotCause) : State := s.raise .store (.slot i c)

/-- The cause of a credit state, raised by the Store if there is one (R51). -/
def State.raiseEntered (s : State) (i : Slot) (start found : Byte) : State :=
  if found = start then s
  else
    match (creditOfCode found).bind enteredCause with
    | some c => s.raiseSlot i c
    | none => s

/-- Account item i dirtied by the Store. -/
def State.dirtyAccount (s : State) (i : Slot) : State := s.dirty .store (.account i)

/-! ## The commit queue and engine -/

/-- Whether an item is barred (R127). -/
def Retention.isBarred (r : Retention) : Item → Bool
  | .account i => r.barred[i]
  | .tariff => false
  | .settings => false

/-- A dirtying taken (R126). -/
def Retention.takeDirtying (r : Retention) (i : Item) : Retention :=
  if r.isBarred i then r else if i ∈ r.queue then r else { r with queue := r.queue ++ [i] }

/-- The gathering that an item's snapshot begins with (R128). -/
def Gathering.start : Item → Gathering
  | .account i => .account i none
  | .tariff => .tariff none
  | .settings => .settings none none (Vector.replicate 8 none) (Vector.replicate 8 none)

/-- The greatest commit serial, at which the engine stops (R130). -/
def serialLimit : BitVec 32 := 0xFFFFFFFF#32

/-- Whether the commit engine takes the head of the queue (R128, R130). -/
def Retention.mayTake (r : Retention) : Bool :=
  r.engine == .idle && !r.queue.isEmpty && r.power != .restoring && r.commitSerial != serialLimit

/-- The commit engine takes the head of the queue if its conditions hold (R128). -/
def Retention.commitTake (r : Retention) : Retention :=
  if r.mayTake then
    match r.queue with
    | [] => r
    | i :: rest => { r with queue := rest, engine := .snapshot (.start i) }
  else r

/-- No block has answered the stop. -/
def StopAnswers.none : StopAnswers where
  store := false
  tariff := false
  quantizers := Vector.replicate 8 false
  supplies := Vector.replicate 8 false

/-- Every block has answered the stop. -/
def StopAnswers.complete (a : StopAnswers) : Bool :=
  a.store && a.tariff && channels.all (fun n => a.quantizers[n]) && channels.all (fun n => a.supplies[n])

/-- Whether the drain is complete (R137). -/
def Retention.drained (r : Retention) : Bool :=
  r.power == .draining && r.queue.isEmpty && r.engine == .idle

/-- The stop is sent if the drain is complete and it has not been sent (R137). -/
def Retention.drainComplete (r : Retention) : Retention :=
  if r.drained ∧ r.stop = none then { r with stop := some .none } else r

/-- What an event of the Retention Unit ends with: the engine takes the head of the queue, and the drain is
found complete, in the same event (R128, R131, R137). -/
def Retention.settle (r : Retention) : Retention := r.commitTake.drainComplete

/-- An account item barred: it leaves the queue (R127). -/
def Retention.bar (r : Retention) (i : Slot) : Retention :=
  { r with queue := r.queue.erase (.account i), barred := r.barred.set i true }.drainComplete

/-- The bar of an account item lifted (R127). -/
def Retention.liftBar (r : Retention) (i : Slot) : Retention := { r with barred := r.barred.set i false }

/-! ## Handles and occupancy -/

/-- Whether a slot's life state counts as occupancy (R25). -/
def occupies : Life → Bool
  | .live => true
  | .quarantined .live => true
  | .free | .waiting | .settled | .lost | .quarantined .waiting | .quarantined .settled => false

/-- The handle of the account in slot i. -/
def State.handleAt (s : State) (i : Slot) : Handle := handleOf i (s.slotAt i).generation

/-- The resolution of a handle (R3). -/
def State.resolve (s : State) (h : Handle) : Option Slot :=
  if generationOf h ≠ 0 ∧ s.lifeAt (slotOf h) ≠ .free
      ∧ generationOf h = (s.slotAt (slotOf h)).generation.toNat then
    some (slotOf h)
  else none

/-- The occupant of channel n: the account in the first place of its list, if its life state is LIVE or held
LIVE (R25). -/
def State.occupant (s : State) (n : Channel) : Option Slot :=
  match s.listAt n with
  | [] => none
  | h :: _ => if occupies (s.lifeAt (slotOf h)) then some (slotOf h) else none

/-- What a notice on channel n describes (R28). -/
def State.viewOf (s : State) (n : Channel) : View :=
  match s.occupant n with
  | none => .vacant
  | some i =>
    match s.lifeAt i with
    | .live => .live (s.handleAt i) (creditOfCode (s.bodyAt i).credit) (emergencyOfCode (s.bodyAt i).emergency)
    | .free | .waiting | .settled | .lost | .quarantined _ => .quarantined

/-- A notice sent to Supply Controller n, describing the channel as it stands (R28). -/
def State.notify (s : State) (n : Channel) : State :=
  s.setSc n { s.sc[n] with notices := s.sc[n].notices ++ [s.viewOf n] }

/-- One notice to the controller of every listed channel whose view differs from the one before the claim. -/
def State.notifyFrom (s0 : State) : List Channel → State → State
  | [], s => s
  | n :: rest, s => State.notifyFrom s0 rest (if s.viewOf n = s0.viewOf n then s else s.notify n)

/-- The notices at the end of a claim that began in `s0`: one for each channel whose occupant changed, was
quarantined, or changed its credit state or emergency status (R18, R28, R51). -/
def State.sendNotices (s : State) (s0 : State) : State := State.notifyFrom s0 channels s

/-! ## Integrity -/

/-- The quarantine of a record in WAITING, LIVE or SETTLED (R13): the held state is recorded, the integrity word
recomputed, QUARANTINED raised, and the item barred. -/
def State.quarantine (s : State) (i : Slot) (held : Held) : State :=
  let s := s.putRecord i { s.slotAt i with life := .quarantined held }
  let s := s.raiseSlot i .quarantined
  s.setRu (s.ru.bar i)

/-- The check of a record before a claim acts on it, and what follows a mismatch (R12, R13, R15). -/
def State.check (s : State) (i : Slot) : State :=
  let x := s.slotAt i
  if x.intact i then s
  else
    match x.life with
    | .waiting => s.quarantine i .waiting
    | .live => s.quarantine i .live
    | .settled => s.quarantine i .settled
    | .quarantined _ => (s.putRecord i x).raiseSlot i .quarantined
    | .lost => s.setSlot i (lostForm i x.generation x.counter)
    | .free => s.setSlot i (freeForm i x.counter)

/-- Whether slot i's record passes its check (R12). -/
def State.intactAt (s : State) (i : Slot) : Bool := (s.slotAt i).intact i

/-- Whether a life state is neither FREE nor LOST: the record has a reference to compare (R7). -/
def hasReference : Life → Bool
  | .waiting | .live | .settled | .quarantined _ => true
  | .free | .lost => false

/-- The check of every listed slot whose record is compared, in order (R7, R12, R19). -/
def State.checkCompared (s : State) : List Slot → State
  | [] => s
  | i :: rest => State.checkCompared (if hasReference (s.lifeAt i) then s.check i else s) rest

/-- Whether the record of slot i carries a reference (R7). -/
def State.carries (s : State) (r : Reference) (i : Slot) : Bool :=
  hasReference (s.lifeAt i) && (s.bodyAt i).reference == r

/-! ## Evaluation and promotion -/

/-- The end of a charge, credit or change of limits (R47, R51): `b` is the record's body after the change.  A
LIVE account is evaluated and the cause of a state entered raised, a WAITING account's emergency status is
brought up to date; the record is written and its item dirtied. -/
def State.conclude (s : State) (i : Slot) (b : Body) (rising : Bool) : State :=
  match s.lifeAt i with
  | .live =>
    ((s.putBody i (b.evaluated rising)).raiseEntered i (s.bodyAt i).credit (b.evaluated rising).credit).dirtyAccount i
  | .free | .waiting | .settled | .lost | .quarantined _ => (s.putBody i (b.stepped rising)).dirtyAccount i

/-- The charge of an account (R46, R47). -/
def State.charge (s : State) (i : Slot) (b : Body) (amount quanta : Nat) : State :=
  let charged := b.charged amount quanta
  let s := s.conclude i charged false
  if charged.saturated ∧ !b.saturated then s.raiseSlot i .saturated else s

/-- An account made LIVE from WAITING (R27): its credit state evaluated from none, its emergency status kept (log 34),
PROMOTED raised, its item dirtied. -/
def State.makeOccupant (s : State) (i : Slot) : State :=
  let b := (s.bodyAt i).promoted
  let s := s.putRecord i { s.slotAt i with life := .live, body := b }
  ((s.raiseEntered i 0#8 b.credit).raiseSlot i .promoted).dirtyAccount i

/-- The examination of the accounts of a channel's list from the first place onward (R26): each record is
checked, the first found in WAITING is promoted to the first place. -/
def State.promoteFrom (s : State) (n : Channel) : List Handle → State × Option Slot
  | [] => (s, none)
  | h :: rest =>
    let i := slotOf h
    let s := s.check i
    match s.lifeAt i with
    | .waiting => ((s.setList n (h :: (s.listAt n).erase h)).makeOccupant i, some i)
    | .free | .live | .settled | .lost | .quarantined _ => State.promoteFrom s n rest

/-- Promotion on channel n, whose departing occupant has left the list (R26). -/
def State.promote (s : State) (n : Channel) : State × Option Slot := s.promoteFrom n (s.listAt n)

/-- The channel whose list holds a handle, if one does (R24). -/
def State.channelOf (s : State) (h : Handle) : Option Channel := channels.find? fun n => (s.listAt n).contains h

/-- The account of slot i leaves the list that held it when the claim began in `s0`; if it was the occupant
there, the channel is promoted (R26, R33, R37, R38).  The slot promoted is returned. -/
def State.leaveList (s s0 : State) (i : Slot) : State × Option Slot :=
  let h := s0.handleAt i
  match s0.channelOf h with
  | none => (s, none)
  | some n =>
    let left := s.setList n ((s.listAt n).erase h)
    if s0.occupant n = some i then left.promote n else (left, none)

/-! ## Requests -/

/-- The claim that waits at its owner, if the request served is one with a single owner (R176). -/
def State.claim (s : State) : Option Claim :=
  match s.re with
  | some { phase := .claim c, .. } => some c
  | _ => none

/-- The phase of the request served replaced. -/
def State.setPhase (s : State) (p : Phase) : State := { s with re := s.re.map fun v => { v with phase := p } }

/-- An owner's answer to the request served (R176). -/
def State.answer (s : State) (outcome : OutcomeCode) (payload : List Byte) : State :=
  s.setPhase (.answered { outcome := outcome, payload := payload })

/-- Whether the Store has taken the stop (R137). -/
def State.storeStopped (s : State) : Bool :=
  match s.ru.stop with
  | none => false
  | some a => a.store

/-- Whether the Store takes a claim now: no other claim is partly done (R17, R97), it has not taken the stop
(R137), and restore is over (R22). -/
def State.storeTakes (s : State) : Bool :=
  s.store.billing.isNone && !s.storeStopped && s.ru.power != .restoring

/-- The outcome of a Store claim of the Request Engine: the state after it, and its answer. -/
structure Taken where
  state : State
  outcome : OutcomeCode
  payload : List Byte
deriving DecidableEq, Repr

/-- A claim answered without a payload. -/
def Taken.refused (s : State) (outcome : OutcomeCode) : Taken :=
  { state := s, outcome := outcome, payload := [] }

/-- A Store claim of the Request Engine done whole (R17, R18): its notices, and its answer to the Engine. -/
def State.finishClaim (s0 : State) (t : Taken) : State := (t.state.sendNotices s0).answer t.outcome t.payload

/-- What the first checks of a claim that names an account by handle find. -/
inductive Named where
  | refused (s : State) (outcome : OutcomeCode)
  | found (i : Slot)
deriving DecidableEq, Repr

/-- The first checks of CLOSE, RELEASE, TOP_UP, ADJUST, SET_LIMITS and BILL_UNBILLED (R32, R34, R56, R59, R60,
R96): the handle resolves, the record is checked whatever its life state (R12), it is not QUARANTINED and has not
failed its check, and it is not LOST.  A QUARANTINED or LOST record that fails is handled by R15, and the claim goes
on to its refusal (log 15). -/
def State.named (s : State) (h : Handle) : Named :=
  match s.resolve h with
  | none => .refused s .noSuchAccount
  | some i =>
    match s.lifeAt i with
    | .quarantined _ => .refused (s.check i) .integrity
    | .lost => .refused (s.check i) .wrongState
    | .free => .refused s .noSuchAccount
    | .waiting | .live | .settled => if s.intactAt i then .found i else .refused (s.check i) .integrity

/-- Whether an expected version is present and differs (R6). -/
def staleVersion (expected : Option (BitVec 16)) (b : Body) : Bool :=
  match expected with
  | none => false
  | some v => v != b.version

/-- The answer STALE_VERSION with the record's version (R183). -/
def Taken.stale (s : State) (b : Body) : Taken :=
  { state := s, outcome := .staleVersion, payload := le16 b.version }

end Sys2Proof.Machine
end

