-- ==== Sys2Proof/Machine/Accounts.lean ====
section
/-! DEFINITION. The requests that read the account table: LOOKUP, READ_ACCOUNT and SURVEY (1.5). -/

namespace Sys2Proof.Machine

/-- Whether the account of slot i is in WAITING, LIVE or SETTLED (R19). -/
def State.settledOrOpen (s : State) (i : Slot) : Bool :=
  match s.lifeAt i with
  | .waiting | .live | .settled => true
  | .free | .lost | .quarantined _ => false

/-- The report of LOOKUP on slot i among the matching slots (R19, Table 10-6). -/
def State.lookupReport (s : State) (found : List Slot) (i : Slot) : List Byte :=
  le16 (s.handleAt i)
    ++ [lifeCode (s.lifeAt i), (s.bodyAt i).channel, heldCode (s.lifeAt i), count8 (found.length - 1)]

/-- LOOKUP (R19). -/
def State.lookup (s : State) (r : Reference) : Taken :=
  let s := s.checkCompared slots
  let found := slots.filter (s.carries r)
  match (found.find? s.settledOrOpen).or found.head? with
  | none => .refused s .noSuchAccount
  | some i => { state := s, outcome := .ok, payload := s.lookupReport found i }

/-- READ_ACCOUNT (R20). -/
def State.readAccount (s : State) (h : Handle) : Taken :=
  match s.resolve h with
  | none => .refused s .noSuchAccount
  | some i =>
    let after := s.check i
    { state := after
      outcome := if s.intactAt i || s.lifeAt i == .lost then .ok else .integrity
      payload := serialise i (after.slotAt i) }

/-- One summary of SURVEY (R21, Table 10-9). -/
def State.summaryOf (s : State) (i : Slot) : List Byte :=
  let b := (s.bodyAt i).shown (s.lifeAt i)
  [count8 i.val] ++ le16 (s.handleAt i) ++ [lifeCode (s.lifeAt i), heldCode (s.lifeAt i), b.channel, b.credit, b.emergency]
    ++ le32 b.balance ++ le16 b.version

/-- The slots that a SURVEY summarises: the first eight that are not FREE, from the start slot (R21). -/
def State.surveyed (s : State) (start : Slot) : List Slot :=
  (slots.filter fun i => start ≤ i && s.lifeAt i != .free).take 8

/-- The resume slot: one above the eighth summary's slot, or 32 (R21). -/
def resumeSlot (taken : List Slot) : Nat :=
  match taken[7]? with
  | some i => i.val + 1
  | none => 32

/-- SURVEY (R21). -/
def State.survey (s : State) (start : Slot) : Taken :=
  let taken := s.surveyed start
  let after := taken.foldl State.check s
  { state := after
    outcome := .ok
    payload := [count8 taken.length] ++ taken.flatMap after.summaryOf ++ [count8 (resumeSlot taken)] }

/-- LOOKUP: the Store takes the claim of the Request Engine whole. -/
def execLookup (s : State) : Result :=
  match s.claim with
  | some (.lookup r) => .next (if s.storeTakes then s.finishClaim (s.lookup r) else s)
  | _ => .next s

/-- READ_ACCOUNT: the Store takes the claim of the Request Engine whole. -/
def execReadAccount (s : State) : Result :=
  match s.claim with
  | some (.readAccount h) => .next (if s.storeTakes then s.finishClaim (s.readAccount h) else s)
  | _ => .next s

/-- SURVEY: the Store takes the claim of the Request Engine whole. -/
def execSurvey (s : State) : Result :=
  match s.claim with
  | some (.survey start) => .next (if s.storeTakes then s.finishClaim (s.survey start) else s)
  | _ => .next s

end Sys2Proof.Machine
end

