-- ==== Sys2Proof/WellFormed.lean ====
section
/-! DEFINITION. Which terms of `Instr` are commands of the part: a block operand names a block that the step
can belong to, and a link event is one that the row's frame can have. -/

namespace Sys2Proof

/-- The type byte of a request frame (Table 10-2). -/
def requestType : Byte := 0x51#8

/-- The type byte of a fetch frame (Table 10-3). -/
def fetchType : Byte := 0x46#8

/-- The owners of READ_DEVICE (Table 9-1). -/
def Block.reportsDevice : Block → Bool
  | .retention | .levy | .store => true
  | .tariff | .quantizer _ | .supply _ => false

/-- The blocks that raise causes (Table 8-1). -/
def Block.raisesCauses : Block → Bool
  | .store | .quantizer _ | .supply _ | .levy | .retention => true
  | .tariff => false

/-- The blocks that own parts of retained items: they dirty them, give their parts to a snapshot and take the
stop (Table 7-1, R128, R137). -/
def Block.ownsRetained : Block → Bool
  | .store | .tariff | .quantizer _ | .supply _ => true
  | .levy | .retention => false

/-- An event that a request frame can have. -/
def LinkEvent.ofRequestFrame : LinkEvent → Bool
  | .frame mosi => mosi.head? == some requestType
  | .csnAsserts | .byte _ | .clock _ | .csnDeasserts => true

/-- An event that a fetch frame can have. -/
def LinkEvent.ofFetchFrame : LinkEvent → Bool
  | .frame mosi => mosi.head? == some fetchType
  | .csnAsserts | .byte _ | .clock _ | .csnDeasserts => true

/-- An event that a frame whose type byte names neither type can have. -/
def LinkEvent.ofBadTypeFrame : LinkEvent → Bool
  | .frame [] => false
  | .frame (kind :: _) => kind != requestType && kind != fetchType
  | .csnAsserts | .byte _ | .clock _ | .csnDeasserts => true

/-- An event that a frame without a complete byte can have. -/
def LinkEvent.ofEmptyFrame : LinkEvent → Bool
  | .frame mosi => mosi.isEmpty
  | .byte _ => false
  | .csnAsserts | .clock _ | .csnDeasserts => true

/-- An event that the rest of a frame can have after its assertion of CSN. -/
def LinkEvent.ofFrameRest : LinkEvent → Bool
  | .byte _ | .clock _ | .csnDeasserts => true
  | .frame _ | .csnAsserts => false

/-- The commands of the part. -/
def Instr.WellFormed : Instr → Bool
  | .readDevice owner => owner.reportsDevice
  | .causeRaise source => source.raisesCauses
  | .dirtying source => source.ownsRetained
  | .snapshotPart owner => owner.ownsRetained
  | .stop block => block.ownsRetained
  | .requestFrame event => event.ofRequestFrame
  | .badTypeFrame event => event.ofBadTypeFrame
  | .fetchFrame event => event.ofFetchFrame
  | .emptyFrame event => event.ofEmptyFrame
  | .waitDeassertEnd event => event.ofFrameRest
  | .timedOutFrameEnd event => event.ofFrameRest
  | .identify | .softReset | .openAccount | .lookup | .readAccount | .survey | .close | .release | .rewrite
  | .discard | .topUp | .adjust | .setLimits | .setBand | .setPrice | .setStanding | .readTariff
  | .commitTariffs | .levy | .cancelLevy | .configureChannel | .readChannel _ | .billUnbilled
  | .unbilledCountTake _ | .setHold _ | .reconnect | .clearFault | .fetchAttention | .ackAttention
  | .setAttentionMask | .gapTimerExpiry | .requestTake | .responseQueue | .pulseEvent _
  | .windowTimerExpiry _ | .quantumDebit _ | .debitResult _ | .notice _ | .feedbackEvent _ _
  | .operationTimerExpiry _ | .press _ | .emergencyEngage _ | .engageResult _ | .levyClaim | .levyResult
  | .slotEntryRemoval | .commitTake | .snapshotClaim | .writeStart | .writeCompletion _ | .pfwEvent _
  | .drainComplete | .softResetEffect _ | .powerOnReset _ _ | .pinReset _ _ | .classifyCopies
  | .loadSettingsAndTariff | .restoreLoad | .referenceConflicts | .occupancyConflicts | .restorePromotion
  | .restoreSummary | .adopt _ | .endOfRestore | .pulseRecogniserEdge _ _ | .buttonRecogniserEdge _ _ => true

end Sys2Proof
end

