-- ==== Sys2Proof/Machine/AttentionList.lean ====
section
/-! DEFINITION. The Attention Unit: raises and removals taken, FETCH_ATTENTION, ACK_ATTENTION and
SET_ATTENTION_MASK (Chapter 8). -/

namespace Sys2Proof.Machine

/-- The cause set that the list holds for a subject, empty if it has no entry. -/
def causesOf (list : List Entry) (x : Subject) : BitVec 8 :=
  match list.find? fun e => e.subject == x with
  | some e => e.causes
  | none => 0#8

/-- The list after one cause of a subject is recorded (R150): it joins the subject's entry, or a new entry is
appended at the tail. -/
def recordCause (x : Subject) (bit : Nat) : List Entry → List Entry
  | [] => [{ subject := x, causes := setWith 0#8 bit true }]
  | e :: rest =>
    if e.subject = x then { e with causes := setWith e.causes bit true } :: rest
    else e :: recordCause x bit rest

/-- The list after causes of a subject are acknowledged (R155): an entry whose set becomes empty leaves. -/
def acknowledge (x : Subject) (causes : BitVec 8) : List Entry → List Entry
  | [] => []
  | e :: rest =>
    if e.subject = x then
      if e.causes &&& ~~~causes = 0#8 then rest else { e with causes := e.causes &&& ~~~causes } :: rest
    else e :: acknowledge x causes rest

/-- The attention list replaced; ATTN follows it in the same event (R152). -/
def Attention.setList (a : Attention) (list : List Entry) : Attention :=
  { a with list := list, attn := !list.isEmpty }

/-- A raise taken (R150). -/
def Attention.takeRaise (a : Attention) (r : Raise) : Attention :=
  if a.mask.hides r then a else a.setList (recordCause (raiseSubject r) (raiseBit r) a.list)

/-- A removal of a slot's entry taken (R157). -/
def Attention.takeRemoval (a : Attention) (i : Slot) : Attention :=
  a.setList (a.list.filter fun e => e.subject != .slot i)

/-- Whether a message was issued by a block (R151). -/
def AttentionMessage.isFrom (source : Block) : AttentionMessage → Bool
  | .raised b _ => b == source
  | .removed _ => source == .store

/-- The oldest message of a block, with the others in their order (R151). -/
def takeMessage (source : Block) : List AttentionMessage → Option (AttentionMessage × List AttentionMessage)
  | [] => none
  | m :: rest =>
    if m.isFrom source then some (m, rest)
    else (takeMessage source rest).map fun (found, others) => (found, m :: others)

/-- CAUSE_RAISE: the Attention Unit takes the oldest message of a block, if it is a raise (R150, R151). -/
def execCauseRaise (source : Block) (s : State) : Result :=
  if !source.raisesCauses then .fault .illFormed
  else
    match takeMessage source s.au.inbox with
    | some (.raised _ r, rest) => .next (s.setAu ({ s.au with inbox := rest }.takeRaise r))
    | _ => .next s

/-- SLOT_ENTRY_REMOVAL: the Attention Unit takes the Store's oldest message, if it is a removal (R157). -/
def execSlotEntryRemoval (s : State) : Result :=
  match takeMessage .store s.au.inbox with
  | some (.removed i, rest) => .next (s.setAu ({ s.au with inbox := rest }.takeRemoval i))
  | _ => .next s

/-- The payload of FETCH_ATTENTION (R154, Table 10-6). -/
def Attention.headReport (a : Attention) : List Byte :=
  match a.list with
  | [] => [2#8, 0#8, 0#8, 0#8, 0#8]
  | e :: _ => [1#8, subjectKindCode e.subject, subjectNumber e.subject, e.causes, count8 a.list.length]

/-- FETCH_ATTENTION. -/
def execFetchAttention (s : State) : Result :=
  match s.claim with
  | some .fetchAttention => .next (s.answer .ok s.au.headReport)
  | _ => .next s

/-- The payload of ACK_ATTENTION (R155, Table 10-6), from the list after it. -/
def Attention.ackReport (a : Attention) (x : Subject) : List Byte :=
  [causesOf a.list x, yesNo (a.list.any fun e => e.subject == x), count8 a.list.length]

/-- ACK_ATTENTION at the Attention Unit (R155). -/
def State.takeAck (s : State) (x : Subject) (causes : BitVec 8) : State :=
  let a := s.au.setList (acknowledge x causes s.au.list)
  (s.setAu a).answer .ok (a.ackReport x)

/-- ACK_ATTENTION. -/
def execAckAttention (s : State) : Result :=
  match s.claim with
  | some (.ackAttention x causes) => .next (s.takeAck x causes)
  | _ => .next s

/-- A mask as three bytes (R186). -/
def CauseMask.bytes (m : CauseMask) : List Byte := [m.slot, m.channel, m.device]

/-- SET_ATTENTION_MASK at the Attention Unit (R153). -/
def State.takeMask (s : State) (m : CauseMask) : State :=
  (s.setAu { s.au with mask := m }).answer .ok (s.au.mask.bytes ++ m.bytes)

/-- SET_ATTENTION_MASK. -/
def execSetAttentionMask (s : State) : Result :=
  match s.claim with
  | some (.setAttentionMask m) => .next (s.takeMask m)
  | _ => .next s

end Sys2Proof.Machine
end

