-- ==== Sys2Proof/Machine/HostLink.lean ====
section
/-! DEFINITION. The Host Link and the Request Engine: frame assembly, the status byte, admission and delivery, the
gap timer, and the taking of requests and queuing of responses (Chapter 9). -/

namespace Sys2Proof.Machine

/-- The Host Link replaced. -/
def State.setHl (s : State) (l : Link) : State := { s with hl := l }

/-- The gap timer's time in ms (R163). -/
def gapTime : Nat := 10

/-- The most bytes of a frame that the link stores (R167). -/
def storedLimit : Nat := 101

/-- The bytes that a fetch shifts out after the status byte (R169); `none` selects the empty response. -/
def responseBytes (selected : Option Response) : List Byte :=
  let fields :=
    match selected with
    | none => [0#8, 0#8, outcomeCode .empty, 0#8]
    | some r => [r.tag, r.code, outcomeCode r.outcome, count8 r.payload.length] ++ r.payload
  fields ++ [crc8 fields]

/-! ## The Request Engine -/

/-- Whether the Request Engine takes the head of the request queue (R173). -/
def State.mayTakeRequest (s : State) : Bool :=
  s.re.isNone && !s.hl.requests.isEmpty && s.hl.responses.length < queueDepth
    && (s.ru.power == .run || s.ru.power == .holdup)

/-- The Request Engine takes and validates the head request if its conditions hold (R173, R174). -/
def State.takeRequest (s : State) : State :=
  if s.mayTakeRequest then
    match s.hl.requests with
    | [] => s
    | r :: rest =>
      { s.setHl { s.hl with requests := rest } with re := some { request := r, phase := validate s.ru.power r } }
  else s

/-- REQUEST_TAKE. -/
def execRequestTake (s : State) : Result := .next s.takeRequest

/-- The response to a request served (R176). -/
def Serving.response (v : Serving) (r : Reply) : Response :=
  { tag := v.request.tag, code := v.request.code, outcome := r.outcome, payload := r.payload }

/-- RESPONSE_QUEUE: the Engine appends its response and returns to IDLE (R176). -/
def execResponseQueue (s : State) : Result :=
  match s.re with
  | some { request := q, phase := .answered r } =>
    .next
      { s.setHl { s.hl with responses := s.hl.responses ++ [Serving.response { request := q, phase := .answered r } r] } with
        re := none }
  | _ => .next s

/-! ## Frame ends -/

/-- The result of the admission checks on a request frame (R167), from its stored bytes and its byte count. -/
def admission (s : State) (stored : List Byte) (count : Nat) : FrameResult :=
  let length := (byteAt stored 3).toNat
  if count < 4 ∨ length > 96 ∨ count ≠ 5 + length then .badLength
  else if crc8 (stored.take (4 + length)) ≠ byteAt stored (4 + length) then .badCheck
  else if byteAt stored 1 = 0#8 then .badType
  else if queueDepth ≤ s.hl.requests.length then .queueFull
  else if s.ru.power = .run ∨ s.ru.power = .holdup then .accepted
  else .notReady

/-- The request that a stored frame carries (Table 10-2). -/
def requestOf (stored : List Byte) : Request where
  tag := byteAt stored 1
  code := byteAt stored 2
  payload := (stored.drop 4).take (byteAt stored 3).toNat

/-- A frame that ended with a result: it is recorded, and the assembly is IDLE (R162, R164). -/
def Link.ended (l : Link) (r : FrameResult) : Link := { l with frame := .idle, gap := none, result := r }

/-- CSN deasserts on a frame in REQUEST (R167). -/
def State.endRequest (s : State) : State :=
  match admission s s.hl.stored s.hl.count with
  | .accepted =>
    s.setHl { s.hl.ended .accepted with requests := s.hl.requests ++ [requestOf s.hl.stored] }
  | r => s.setHl (s.hl.ended r)

/-- CSN deasserts on a frame in FETCH (R170).  The bytes after the status byte are one fewer than the frame's
bytes.  A removal that frees a place of a full response queue lets the Engine take its next request in the
same event (R178). -/
def State.endFetch (s : State) : State :=
  if s.hl.count - 1 < (responseBytes s.hl.selected).length then s.setHl (s.hl.ended .fetchIncomplete)
  else
    match s.hl.selected with
    | none => s.setHl (s.hl.ended .accepted)
    | some _ =>
      let after := s.setHl { s.hl.ended .accepted with responses := s.hl.responses.tail }
      if queueDepth ≤ s.hl.responses.length then after.takeRequest else after

/-! ## Link events -/

/-- The byte that the link shifts out where it has none of its own to send (R161). -/
def fillByte : Byte := 0x00#8

/-- CSN asserts in IDLE (R162): the status byte is loaded and shifted out during byte 0 (R165). -/
def State.linkAssert (s : State) : State :=
  s.setHl
    { s.hl with
      frame := .kind, status := statusByte s, out := statusByte s, sent := [], shift := [], stored := [], count := 0
      selected := none, gap := some gapTime }

/-- A complete byte: the byte being shifted out has gone out whole, and `next` is shifted out during the byte that
follows (R161). -/
def Link.shifted (l : Link) (next : Byte) : Link := { l with shift := [], sent := l.sent ++ [l.out], out := next }

/-- A complete byte of a timed frame: it is counted, and the gap timer restarts (R163). -/
def Link.counted (l : Link) (next : Byte) : Link :=
  { l.shifted next with count := l.count + 1, gap := some gapTime }

/-- A complete byte, by the frame assembly state (R162).  The byte to shift out next is chosen in this event.  DESIGN
CHOICE (log 37): a frame that the gap timer discards within a byte goes on shifting out the byte that it was sending,
and fill from the next byte on; so the status byte goes out in byte 0 of every frame (R165). -/
def State.linkByte (s : State) (b : Byte) : State :=
  let l := s.hl
  match l.frame with
  | .idle => s
  | .kind =>
    if b = requestType then s.setHl { l.counted fillByte with frame := .request, stored := [b] }
    else if b = fetchType then
      s.setHl { l.counted (byteAt (responseBytes l.responses.head?) 0) with
        frame := .fetch, selected := l.responses.head? }
    else s.setHl { l.counted fillByte with frame := .discard .badType, gap := none }
  | .request =>
    s.setHl
      { l.counted fillByte with stored := if l.stored.length < storedLimit then l.stored ++ [b] else l.stored }
  | .fetch => s.setHl (l.counted (byteAt (responseBytes l.selected) l.count))
  | .discard _ => s.setHl (l.shifted fillByte)
  | .waitDeassert => s.setHl (l.shifted fillByte)

/-- Bit k of a byte in the order of the link, the most significant bit first (R161). -/
def wireBit (b : Byte) (k : Nat) : Bool := b.getLsbD (7 - k)

/-- The level on MISO (R161): while CSN is asserted, the bit of the byte being shifted out that stands against the next
bit of MOSI; the first bit is there from the assertion on.  DESIGN CHOICE (log 41): with CSN deasserted there is no
level, since the link sends nothing. -/
def Link.miso (l : Link) : Option Bool :=
  if l.frame = .idle then none else some (wireBit l.out l.shift.length)

/-- Every bit that the link has shifted out in the frame (R161): those of the complete bytes, and the bits of the byte
being sent that stand against the bits of an incomplete byte. -/
def Link.misoBits (l : Link) : List Bool :=
  l.sent.flatMap (fun b => (List.range 8).map (wireBit b)) ++ (List.range l.shift.length).map (wireBit l.out)

/-- The byte that a further bit completes, if it does (R161). -/
def Link.completes (l : Link) (bit : Bool) : Option Byte :=
  if l.shift.length = 7 then some (byteOfBits (l.shift ++ [bit])) else none

/-- One bit clocked, the most significant bit of a byte first (R161). -/
def State.linkBit (s : State) (bit : Bool) : State :=
  match s.hl.completes bit with
  | some b => s.linkByte b
  | none => s.setHl { s.hl with shift := s.hl.shift ++ [bit] }

/-- CSN deasserts, by the frame assembly state (R162).  Bits after the last complete byte are dropped. -/
def State.linkDeassert (s : State) : State :=
  match s.hl.frame with
  | .idle => s
  | .kind => s.setHl { s.hl with frame := .idle, gap := none }
  | .request => s.endRequest
  | .fetch => s.endFetch
  | .discard kept => s.setHl (s.hl.ended kept)
  | .waitDeassert => s.setHl { s.hl with frame := .idle, gap := none }

/-- A link event; a whole frame is its events one after another, with no other event between them. -/
def State.linkEvent (s : State) : LinkEvent → State
  | .frame mosi => (mosi.foldl State.linkByte s.linkAssert).linkDeassert
  | .csnAsserts => s.linkAssert
  | .byte b => s.linkByte b
  | .clock bit => s.linkBit bit
  | .csnDeasserts => s.linkDeassert

/-! ## Which row an event belongs to -/

/-- Whether an event starts a frame that is then as `kind` says, or gives byte 0 as `kind` says. -/
def Link.starts (l : Link) (kind : Byte → Bool) : LinkEvent → Bool
  | .frame _ => l.frame == .idle
  | .csnAsserts => l.frame == .idle
  | .byte b => l.frame == .kind && l.shift.isEmpty && kind b
  | .clock bit => l.frame == .kind && (l.completes bit).all kind
  | .csnDeasserts => false

/-- Whether an event goes on or ends with a frame whose assembly is in `state`. -/
def Link.continues (l : Link) (state : FrameState) : LinkEvent → Bool
  | .frame _ => false
  | .csnAsserts => false
  | .byte _ => l.frame == state && l.shift.isEmpty
  | .clock _ => l.frame == state
  | .csnDeasserts => l.frame == state

/-- Whether an event belongs to a frame without a complete byte (R162). -/
def Link.isEmptyFrame (l : Link) : LinkEvent → Bool
  | .frame _ => l.frame == .idle
  | .csnAsserts => l.frame == .idle
  | .byte _ => false
  | .clock bit => l.frame == .kind && (l.completes bit).isNone
  | .csnDeasserts => l.frame == .kind

/-- Whether a type byte names neither type (R162). -/
def namesNoType (b : Byte) : Bool := b != requestType && b != fetchType

/-- REQUEST_FRAME: an event of a request frame (R162, R167). -/
def execRequestFrame (e : LinkEvent) (s : State) : Result :=
  if !e.ofRequestFrame then .fault .illFormed
  else .next (if s.hl.starts (· == requestType) e || s.hl.continues .request e then s.linkEvent e else s)

/-- FETCH_FRAME: an event of a fetch frame (R162, R169, R170). -/
def execFetchFrame (e : LinkEvent) (s : State) : Result :=
  if !e.ofFetchFrame then .fault .illFormed
  else .next (if s.hl.starts (· == fetchType) e || s.hl.continues .fetch e then s.linkEvent e else s)

/-- BAD_TYPE_FRAME: an event of a frame whose type byte names neither type (R162). -/
def execBadTypeFrame (e : LinkEvent) (s : State) : Result :=
  if !e.ofBadTypeFrame then .fault .illFormed
  else
    .next (if s.hl.starts namesNoType e || s.hl.continues (.discard .badType) e then s.linkEvent e else s)

/-- EMPTY_FRAME: an event of a frame with no complete byte (R162). -/
def execEmptyFrame (e : LinkEvent) (s : State) : Result :=
  if !e.ofEmptyFrame then .fault .illFormed
  else .next (if s.hl.isEmptyFrame e then s.linkEvent e else s)

/-- WAIT_DEASSERT_END: an event of a frame that a reset found in progress (R162). -/
def execWaitDeassertEnd (e : LinkEvent) (s : State) : Result :=
  if !e.ofFrameRest then .fault .illFormed
  else .next (if s.hl.continues .waitDeassert e then s.linkEvent e else s)

/-- TIMED_OUT_FRAME_END: an event of a frame that its gap timer discarded (R162, R163). -/
def execTimedOutFrameEnd (e : LinkEvent) (s : State) : Result :=
  if !e.ofFrameRest then .fault .illFormed
  else .next (if s.hl.continues (.discard .timeout) e then s.linkEvent e else s)

/-- Whether the gap timer runs: in TYPE, REQUEST and FETCH (R163). -/
def isTimed : FrameState → Bool
  | .kind | .request | .fetch => true
  | .idle | .discard _ | .waitDeassert => false

/-- GAP_TIMER_EXPIRY: the frame is discarded with result TIMEOUT (R163). -/
def execGapTimerExpiry (s : State) : Result :=
  .next (if isTimed s.hl.frame then s.setHl { s.hl with frame := .discard .timeout, gap := none } else s)

end Sys2Proof.Machine
end

