-- ==== Sys2Proof/Machine/Levy.lean ====
section
/-! DEFINITION. The Levy Engine and the levy claim at the Store: LEVY, CANCEL_LEVY, LEVY_CLAIM and LEVY_RESULT
(4.6, 4.7). -/

namespace Sys2Proof.Machine

/-- The Levy Engine replaced. -/
def State.setLe (s : State) (e : LevyEngine) : State := { s with le := e }

/-- A walk's next claim (R77). -/
def WalkData.claim (w : WalkData) : LevyClaim := { number := w.number, cursor := w.cursor }

/-- LEVY at the Levy Engine (R76). -/
def State.takeLevy (s : State) (number : BitVec 16) : State :=
  match s.le.walk with
  | .idle =>
    let w : WalkData := { number := number, cursor := 0, charged := 0, already := 0 }
    (s.setLe { s.le with walk := .walking w, claim := some w.claim }).answer .accepted (le16 number)
  | .walking _ | .stopping _ => s.answer .busy []

/-- CANCEL_LEVY at the Levy Engine (R80). -/
def State.takeCancel (s : State) : State :=
  match s.le.walk with
  | .idle => s.answer .wrongState []
  | .walking w => (s.setLe { s.le with walk := .stopping w }).answer .ok []
  | .stopping _ => s.answer .ok []

/-- The slot that a levy claim selects: the lowest at or above the cursor whose life state is LIVE (R77). -/
def State.levySelects (s : State) (cursor : Nat) : Option Slot :=
  slots.find? fun i => cursor ≤ i.val && s.lifeAt i == .live

/-- A levy claim taken by the Store (R77). -/
def State.levy (s : State) (c : LevyClaim) : State × LevyResult :=
  match s.levySelects c.cursor with
  | none => (s, .exhausted)
  | some i =>
    let b := s.bodyAt i
    if !s.intactAt i then ((s.check i).sendNotices s, .refused i)
    else if b.lastLevy = c.number then (s, .already i)
    else
      let amount := (s.tu.active.standingFor b.tariff).toNat
      ((s.charge i { b with lastLevy := c.number } amount 0).sendNotices s, .charged i)

/-- The counts and cursor after a result (R79). -/
def WalkData.count (w : WalkData) : LevyResult → WalkData
  | .charged i => { w with charged := w.charged + 1, cursor := i.val + 1 }
  | .already i => { w with already := w.already + 1, cursor := i.val + 1 }
  | .refused i => { w with cursor := i.val + 1 }
  | .exhausted => w

/-- The end of a walk: its summary is stored and LEVY_DONE raised (R79). -/
def State.endWalk (s : State) (w : WalkData) (complete : Bool) : State :=
  let summary : WalkSummary :=
    { number := w.number, charged := w.charged, already := w.already, complete := complete }
  (s.setLe { walk := .idle, claim := none, result := none, last := some summary }).raise .levy (.device .levyDone)

/-- The Levy Engine acts on a result (R79). -/
def State.takeLevyResult (s : State) (r : LevyResult) : State :=
  match s.le.walk with
  | .idle => s.setLe { s.le with result := none }
  | .walking w =>
    if r ≠ .exhausted ∧ (w.count r).cursor ≤ 31 then
      s.setLe { s.le with walk := .walking (w.count r), claim := some (w.count r).claim, result := none }
    else s.endWalk (w.count r) true
  | .stopping w => s.endWalk (w.count r) false

/-- The Levy Engine's part of READ_DEVICE: offsets 16 to 27 of Table 10-10. -/
def LevyEngine.report (e : LevyEngine) : List Byte :=
  let running (code : Byte) (w : WalkData) : List Byte :=
    [code] ++ le16 w.number ++ [count8 w.cursor, count8 w.charged, count8 w.already]
  let walk :=
    match e.walk with
    | .idle => [1#8, 0#8, 0#8, 0#8, 0#8, 0#8]
    | .walking w => running 2#8 w
    | .stopping w => running 3#8 w
  let last :=
    match e.last with
    | none => [0#8, 0#8, 0#8, 0#8, 0#8, 0#8]
    | some x =>
      [1#8] ++ le16 x.number ++ [count8 x.charged, count8 x.already, if x.complete then 1#8 else 2#8]
  walk ++ last

/-- LEVY. -/
def execLevy (s : State) : Result :=
  match s.claim with
  | some (.levy number) => .next (s.takeLevy number)
  | _ => .next s

/-- CANCEL_LEVY. -/
def execCancelLevy (s : State) : Result :=
  match s.claim with
  | some .cancelLevy => .next s.takeCancel
  | _ => .next s

/-- The levy claim that waits at the Store, if the Store takes claims. -/
def State.levyDue (s : State) : Option LevyClaim := if s.storeTakes then s.le.claim else none

/-- LEVY_CLAIM: the Store takes the claim whole, and its result is on its way to the Levy Engine. -/
def execLevyClaim (s : State) : Result :=
  match s.levyDue with
  | none => .next s
  | some c =>
    .next ((s.levy c).1.setLe { (s.levy c).1.le with claim := none, result := some (s.levy c).2 })

/-- LEVY_RESULT: the Levy Engine acts on the result that reached it. -/
def execLevyResult (s : State) : Result :=
  match s.le.result with
  | none => .next s
  | some r => .next (s.takeLevyResult r)

end Sys2Proof.Machine
end

