-- ==== Sys2Proof/Machine/CommitEngine.lean ====
section
/-! DEFINITION. The Retention Unit at work: dirtyings, the commit engine's snapshots and writes, power states, the
device requests, and the drain with its stop (7.2 to 7.5, 7.7). -/

namespace Sys2Proof.Machine

/-! ## Items and copies -/

/-- One item's value. -/
def PerItem.get {α : Type} (p : PerItem α) : Item → α
  | .account i => p.accounts[i]
  | .tariff => p.tariff
  | .settings => p.settings

/-- One item's value replaced. -/
def PerItem.put {α : Type} (p : PerItem α) (x : Item) (v : α) : PerItem α :=
  match x with
  | .account i => { p with accounts := p.accounts.set i v }
  | .tariff => { p with tariff := v }
  | .settings => { p with settings := v }

/-- One of an item's two copies. -/
def Copies.get (c : Copies) : CopyId → NvCopy
  | .a => c.a
  | .b => c.b

/-- One of an item's two copies replaced. -/
def Copies.put (c : Copies) (which : CopyId) (v : NvCopy) : Copies :=
  match which with
  | .a => { c with a := v }
  | .b => { c with b := v }

/-- The array with one copy replaced. -/
def arrayWith (array : PerItem Copies) (x : Item) (which : CopyId) (v : NvCopy) : PerItem Copies :=
  array.put x ((array.get x).put which v)

/-- The CRC-16 of a copy: over the commit serial and the content, in that order (R125). -/
def copyCrc (serial : BitVec 32) (content : List Byte) : BitVec 16 := crc16 (le32 serial ++ content)

/-- The copy that a write stores (R130). -/
def Write.stored (w : Write) : NvCopy := .image w.serial w.content (copyCrc w.serial w.content)

/-- A class of a copy marked in a directory entry. -/
def DirectoryEntry.mark (e : DirectoryEntry) (which : CopyId) (c : CopyClass) : DirectoryEntry :=
  match which with
  | .a => { e with a := c }
  | .b => { e with b := c }

/-- Whether a copy's class is valid. -/
def CopyClass.isValid : CopyClass → Bool
  | .valid _ => true
  | .blank | .invalid => false

/-- The copy that a write goes to, by the copy directory (R130). -/
def DirectoryEntry.target (e : DirectoryEntry) : CopyId :=
  match e.a.isValid, e.b.isValid with
  | true, true => if e.latest = some .a then .b else .a
  | true, false => .b
  | false, true => .a
  | false, false => .a

/-- The directory's entry for an item; in the absence of a directory, that of two blank copies. -/
def Retention.entry (r : Retention) (x : Item) : DirectoryEntry :=
  match r.directory with
  | none => { a := .blank, b := .blank, latest := none }
  | some d => d.get x

/-! ## Dirtyings -/

/-- The oldest dirtying of a block, with the others in their order (R126). -/
def takeDirtyingOf (source : Block) : List (Block × Item) → Option (Item × List (Block × Item))
  | [] => none
  | (b, x) :: rest =>
    if b = source then some (x, rest)
    else (takeDirtyingOf source rest).map fun (found, others) => (found, (b, x) :: others)

/-- DIRTYING: the Retention Unit takes the oldest dirtying of a block; a dirtying that fills an empty queue lets
the idle engine take it in the same event (R126, R128). -/
def execDirtying (source : Block) (s : State) : Result :=
  if !source.ownsRetained then .fault .illFormed
  else
    match takeDirtyingOf source s.ru.inbox with
    | none => .next s
    | some (x, rest) => .next (s.setRu ({ s.ru with inbox := rest }.takeDirtying x).settle)

/-! ## The commit engine -/

/-- COMMIT_TAKE: the engine takes the head of the queue if its conditions hold (R128). -/
def execCommitTake (s : State) : Result := .next (s.setRu s.ru.commitTake)

/-- The slot whose snapshot claim waits at the Store (R128). -/
def Retention.snapshotSlot (r : Retention) : Option Slot :=
  match r.engine with
  | .snapshot (.account i none) => some i
  | .idle | .writing _ | .snapshot (.account _ (some _)) | .snapshot (.tariff _)
  | .snapshot (.settings _ _ _ _) => none

/-- The snapshot of an account item has arrived. -/
def State.snapshotTaken (s : State) (i : Slot) : State :=
  s.setRu { s.ru with engine := .snapshot (.account i (some (serialise i (s.slotAt i)))) }

/-- The snapshot claim is answered DROPPED: the engine returns to IDLE and takes the next head (R128, R129). -/
def State.snapshotDropped (s : State) : State := s.setRu { s.ru with engine := .idle }.settle

/-- A snapshot claim for slot i taken by the Store (R129). -/
def State.snapshot (s : State) (i : Slot) : State :=
  match s.lifeAt i with
  | .waiting | .live | .settled =>
    if s.intactAt i then s.snapshotTaken i else ((s.check i).sendNotices s).snapshotDropped
  | .quarantined _ => s.snapshotDropped
  | .free => (s.check i).snapshotTaken i
  | .lost => (s.check i).snapshotDropped

/-- SNAPSHOT_CLAIM: the Store takes the claim whole; it takes it after its stop as well (R137). -/
def execSnapshotClaim (s : State) : Result :=
  match s.ru.snapshotSlot with
  | none => .next s
  | some i => .next (if s.store.billing.isNone then s.snapshot i else s)

/-- The generation counters as the Store gives them (R128). -/
def State.counters (s : State) : Vector Generation 32 := Vector.ofFn fun i => (s.slotAt i).counter

/-- A snapshot with the part of a block, given once (R128). -/
def State.withPart (s : State) (owner : Block) (g : Gathering) : Gathering :=
  match g, owner with
  | .tariff none, .tariff => .tariff (some s.tu.active)
  | .settings none band configs holds, .store => .settings (some s.counters) band configs holds
  | .settings counters none configs holds, .tariff => .settings counters (some s.tu.band) configs holds
  | .settings counters band configs holds, .quantizer n =>
    if configs[n].isSome then g else .settings counters band (configs.set n (some s.cq[n].config)) holds
  | .settings counters band configs holds, .supply n =>
    if holds[n].isSome then g else .settings counters band configs (holds.set n (some s.sc[n].hold))
  | g, _ => g

/-- SNAPSHOT_PART: the named owner gives its part of a tariff or settings snapshot (R128).  DEDUCED (log 33): 1.4 counts
commit snapshots among the Store's claims, so the Store gives its generation counters only while no BILL_UNBILLED
waits for its count (R17, R97). -/
def execSnapshotPart (owner : Block) (s : State) : Result :=
  if !owner.ownsRetained then .fault .illFormed
  else
    match s.ru.engine with
    | .snapshot g =>
      .next
        (if owner = .store ∧ s.store.billing.isSome then s
         else s.setRu { s.ru with engine := .snapshot (s.withPart owner g) })
    | .idle => .next s
    | .writing _ => .next s

/-- Every part of a settings snapshot, if all have arrived. -/
def settingsOf (counters : Option (Vector Generation 32)) (band : Option Band)
    (configs : Vector (Option ChannelConfig) 8) (holds : Vector (Option Bool) 8) : Option Settings :=
  match counters, band with
  | some c, some b =>
    if channels.all fun n => configs[n].isSome && holds[n].isSome then
      some
        { configs := Vector.ofFn fun n => configs[n].getD .default
          holds := Vector.ofFn fun n => holds[n].getD false
          band := b
          counters := c }
    else none
  | _, _ => none

/-- The item and content of a complete snapshot (R128). -/
def Gathering.complete : Gathering → Option (Item × List Byte)
  | .account i content => content.map fun c => (.account i, c)
  | .tariff bank => bank.map fun b => (.tariff, tariffBytes b)
  | .settings counters band configs holds =>
    (settingsOf counters band configs holds).map fun x => (.settings, settingsBytes x)

/-- WRITE_START: the commit serial advances, the copy is chosen, and the write begins (R130). -/
def execWriteStart (s : State) : Result :=
  match s.ru.engine with
  | .snapshot g =>
    match g.complete with
    | none => .next s
    | some (x, content) =>
      let serial := s.ru.commitSerial + 1#32
      let w : Write :=
        { item := x, copy := (s.ru.entry x).target, serial := serial, content := content, elapsed := 0 }
      .next (s.setRu { s.ru with commitSerial := serial, engine := .writing w })
  | .idle => .next s
  | .writing _ => .next s

/-- The directory after a write's completion (R131). -/
def DirectoryEntry.completed (e : DirectoryEntry) (w : Write) (good : Bool) : DirectoryEntry :=
  if good then { e.mark w.copy (.valid w.serial) with latest := some w.copy } else e.mark w.copy .invalid

/-- The completion of a write whose copy reads back as `found` (R131). -/
def Retention.complete (r : Retention) (w : Write) (found : NvCopy) : Retention :=
  let good := found == w.stored
  let stored :=
    { r with
      array := arrayWith r.array w.item w.copy found
      directory := r.directory.map fun (d : PerItem DirectoryEntry) => d.put w.item ((d.get w.item).completed w good)
      engine := .idle }
  if good then stored.settle
  else ({ stored with writeFaults := min (r.writeFaults + 1) 65535 }.takeDirtying w.item).settle

/-- WRITE_COMPLETION: the engine reads the copy back, as it was written (`none`) or as `found` says. -/
def execWriteCompletion (found : Option NvCopy) (s : State) : Result :=
  match s.ru.engine with
  | .writing w => .next (s.setRu (s.ru.complete w (found.getD w.stored)))
  | .idle => .next s
  | .snapshot _ => .next s

/-! ## Power -/

/-- The PFW level replaced; the input's last sample shows it too (R135). -/
def State.setPfw (s : State) (level : Bool) (power : Power) : State :=
  { s.setRu { s.ru with pfw := level, pfwRun := 0, power := power } with pins := { s.pins with pfw := level } }

/-- PFW_EVENT: the filtered level of PFW becomes `level` (R135). -/
def execPfwEvent (level : Bool) (s : State) : Result :=
  if s.ru.pfw = level then .next s
  else
    match s.ru.power with
    | .run =>
      .next (if level then (s.setPfw level .holdup).raise .retention (.device .powerWarn) else s.setPfw level .run)
    | .holdup => .next (s.setPfw level (if level then .holdup else .run))
    | .restoring => .next (s.setPfw level .restoring)
    | .draining => .next (s.setPfw level .draining)

/-! ## Device requests -/

/-- The payload of IDENTIFY (R148, Table 10-6). -/
def identity : List Byte := [0x17#8, 0x8A#8, 0x00#8, 1#8, 1#8, 32#8, 8#8, 4#8, 4#8, 96#8]

/-- IDENTIFY. -/
def execIdentify (s : State) : Result :=
  match s.claim with
  | some .identify => .next (s.answer .ok identity)
  | _ => .next s

/-- The code of the commit engine's state and the number of the item concerned (Table 10-10). -/
def CommitEngine.report : CommitEngine → List Byte
  | .idle => [1#8, 0#8]
  | .snapshot (.account i _) => [2#8, count8 (itemNumber (.account i))]
  | .snapshot (.tariff _) => [2#8, count8 (itemNumber .tariff)]
  | .snapshot (.settings _ _ _ _) => [2#8, count8 (itemNumber .settings)]
  | .writing w => [3#8, count8 (itemNumber w.item)]

/-- The restore summary as offsets 28 to 36 of Table 10-10. -/
def RestoreSummary.bytes (x : RestoreSummary) : List Byte :=
  [resetCode x.kind, count8 x.restored, count8 x.blank, count8 x.lost, count8 x.quarantined, count8 x.promoted,
    count8 x.torn, itemOutcomeCode x.settings, itemOutcomeCode x.tariff]

/-- The Retention Unit's part of READ_DEVICE: offsets 0 to 11 and 28 to 36 of Table 10-10 (R147). -/
def Retention.report (r : Retention) : List Byte × List Byte :=
  ([powerCode r.power, yesNo r.pfw] ++ le32 r.commitSerial
      ++ [yesNo (r.commitSerial == serialLimit), count8 r.queue.length] ++ r.engine.report
      ++ count16 r.writeFaults,
    match r.summary with
    | none => List.replicate 9 0#8
    | some x => x.bytes)

/-- The parts of READ_DEVICE that have returned; when all have, the response is formed (R176). -/
def devicePhase (retention : Option (List Byte × List Byte)) (levy store : Option (List Byte)) : Phase :=
  match retention, levy, store with
  | some (first, last), some l, some o => .answered { outcome := .ok, payload := first ++ o ++ l ++ last }
  | r, l, o => .device r l o

/-- READ_DEVICE: the named owner takes its part (R147, R176).  The Store's part is a claim that waits while
another is partly done (R97). -/
def execReadDevice (owner : Block) (s : State) : Result :=
  if !owner.reportsDevice then .fault .illFormed
  else
    match s.re with
    | some { phase := .device retention levy store, .. } =>
      match owner with
      | .retention =>
        .next (if retention.isSome then s else s.setPhase (devicePhase (some s.ru.report) levy store))
      | .levy => .next (if levy.isSome then s else s.setPhase (devicePhase retention (some s.le.report) store))
      | .store =>
        .next
          (if store.isSome || !s.storeTakes then s
           else s.setPhase (devicePhase retention levy (some (le32 s.store.openSerial))))
      | .tariff | .quantizer _ | .supply _ => .next s
    | _ => .next s

/-! ## The drain -/

/-- SOFT_RESET at the Retention Unit (R137, R177). -/
def State.takeSoftReset (s : State) : State :=
  match s.ru.power with
  | .holdup => s.answer .powerLow []
  | .run =>
    if s.ru.commitSerial = serialLimit then s.answer .busy []
    else { s.setRu { s.ru with power := .draining }.drainComplete with re := none }
  | .restoring => s
  | .draining => s

/-- SOFT_RESET. -/
def execSoftReset (s : State) : Result :=
  match s.claim with
  | some .softReset => .next s.takeSoftReset
  | _ => .next s

/-- DRAIN_COMPLETE: the stop is sent if the drain is complete (R137). -/
def execDrainComplete (s : State) : Result := .next (s.setRu s.ru.drainComplete)

/-- A block's answer to the stop recorded (R137). -/
def StopAnswers.answeredBy (a : StopAnswers) : Block → StopAnswers
  | .store => { a with store := true }
  | .tariff => { a with tariff := true }
  | .quantizer n => { a with quantizers := a.quantizers.set n true }
  | .supply n => { a with supplies := a.supplies.set n true }
  | .levy => a
  | .retention => a

/-- Whether a dirtying of a block is on its way (R137). -/
def Retention.awaits (r : Retention) (block : Block) : Bool := r.inbox.any fun m => m.1 == block

/-- STOP: the named block takes the stop and answers it; the answer arrives behind its dirtyings (R137). -/
def execStop (block : Block) (s : State) : Result :=
  if !block.ownsRetained then .fault .illFormed
  else
    match s.ru.stop with
    | none => .next s
    | some a =>
      .next (if s.ru.awaits block then s else s.setRu { s.ru with stop := some (a.answeredBy block) })

end Sys2Proof.Machine
end

