-- ==== Sys2Proof/Machine/Credit.lean ====
section
/-! DEFINITION. Credit: TOP_UP, ADJUST, SET_LIMITS, the quantum debit and the emergency engage claim
(Chapter 3). -/

namespace Sys2Proof.Machine

/-- The credit state and emergency status of slot i as an answer carries them, absent forms included
(R183). -/
def State.creditBytes (s : State) (i : Slot) : List Byte :=
  let b := (s.bodyAt i).shown (s.lifeAt i)
  [b.credit, b.emergency]

/-- The payload of an OK to TOP_UP and ADJUST (Table 10-6). -/
def State.creditPayload (s : State) (i : Slot) : List Byte :=
  le32 (s.bodyAt i).balance ++ le16 (s.bodyAt i).version ++ s.creditBytes i

/-! ## TOP_UP -/

/-- The record with a top-up applied (R57). -/
def Body.toppedUp (b : Body) (voucher amount : BitVec 32) : Body :=
  { b with
    balance := b.balance + amount
    credited := b.credited + amount.setWidth 48
    vouchers := (voucher :: b.vouchers).take 4
    version := b.version + 1#16 }

/-- Whether a top-up passes the limits of the balance and the credited total (R56).  A restored balance so far below
BAL_MIN that the top-up leaves it there is outside its bounds too (R43, R65). -/
def Body.topUpFits (b : Body) (amount : BitVec 32) : Bool :=
  balMin ≤ b.balance.toInt + amount.toNat && b.balance.toInt + amount.toNat ≤ balMax
    && b.credited.toNat + amount.toNat ≤ totalMax

/-- TOP_UP (R56, R57). -/
def State.topUp (s : State) (a : TopUpArgs) : Taken :=
  match s.named a.handle with
  | .refused s o => .refused s o
  | .found i =>
    let b := s.bodyAt i
    if s.lifeAt i = .settled then .refused s .wrongState
    else if a.voucher ∈ b.vouchers then
      { state := s, outcome := .duplicateVoucher, payload := le32 b.balance ++ le16 b.version }
    else if staleVersion a.expected b then .stale s b
    else if !b.topUpFits a.amount then .refused s .limitExceeded
    else
      let after := s.conclude i (b.toppedUp a.voucher a.amount) true
      { state := after, outcome := .ok, payload := after.creditPayload i }

/-! ## ADJUST -/

/-- The record with an adjustment applied (R59). -/
def Body.adjusted (b : Body) (amount : BitVec 32) : Body :=
  { b with
    balance := b.balance + amount
    credited := if amount.toInt > 0 then b.credited + BitVec.ofInt 48 amount.toInt else b.credited
    debited := if amount.toInt < 0 then b.debited + BitVec.ofInt 48 (-amount.toInt) else b.debited
    version := b.version + 1#16 }

/-- Whether an adjustment passes the limits of the balance and of the total that it moves (R59). -/
def Body.adjustFits (b : Body) (amount : BitVec 32) : Bool :=
  balMin ≤ b.balance.toInt + amount.toInt && b.balance.toInt + amount.toInt ≤ balMax
    && b.credited.toNat + amount.toInt ≤ totalMax && b.debited.toNat - amount.toInt ≤ totalMax

/-- ADJUST (R59). -/
def State.adjust (s : State) (a : AdjustArgs) : Taken :=
  match s.named a.handle with
  | .refused s o => .refused s o
  | .found i =>
    let b := s.bodyAt i
    if s.lifeAt i = .settled then .refused s .wrongState
    else if a.expected ≠ b.version then .stale s b
    else if !b.adjustFits a.amount then .refused s .limitExceeded
    else
      let after := s.conclude i (b.adjusted a.amount) (0 < a.amount.toInt)
      { state := after, outcome := .ok, payload := after.creditPayload i }

/-! ## SET_LIMITS -/

/-- The emergency status byte that SET_LIMITS sets from the old and new allowances (R61).  DESIGN CHOICE (log 9): the
table of R61 has no row for a restored byte that holds no code and a new allowance above 0; the byte is kept, and the
status step that follows finds a free value for it. -/
def limitedEmergency (b : Body) (allowance : BitVec 32) : Byte :=
  if allowance = 0#32 then emergencyCode .none
  else if b.emergency = emergencyCode .none then emergencyCode .available
  else b.emergency

/-- The record with its limits set (R61). -/
def Body.limited (b : Body) (a : LimitsArgs) : Body :=
  { b with
    tariff := a.tariff
    threshold := a.threshold
    allowance := a.allowance
    emergency := limitedEmergency b a.allowance
    version := b.version + 1#16 }

/-- SET_LIMITS (R60, R61). -/
def State.setLimits (s : State) (a : LimitsArgs) : Taken :=
  match s.named a.handle with
  | .refused s o => .refused s o
  | .found i =>
    let b := s.bodyAt i
    if s.lifeAt i = .settled then .refused s .wrongState
    else if staleVersion a.expected b then .stale s b
    else
      let after := s.conclude i (b.limited a) false
      { state := after, outcome := .ok, payload := le16 (after.bodyAt i).version ++ after.creditBytes i }

/-! ## The quantum debit -/

/-- The price of a record's tariff in the current band of the active bank (R67). -/
def State.priceFor (s : State) (b : Body) : BitVec 16 := s.tu.active.price b.tariff s.tu.band

/-- A quantum debit claim of channel n taken by the Store (R40, R52). -/
def State.quantumDebit (s : State) (n : Channel) : State × DebitResult :=
  match s.occupant n with
  | none => (s, .refused)
  | some i =>
    if s.lifeAt i ≠ .live then (s, .refused)
    else if s.intactAt i then
      ((s.charge i (s.bodyAt i) (s.priceFor (s.bodyAt i)).toNat 1).sendNotices s, .taken)
    else ((s.check i).sendNotices s, .refused)

/-- The result of a debit claim sent back to Channel Quantizer n (R18). -/
def State.returnDebit (s : State) (n : Channel) (r : DebitResult) : State :=
  s.setCq n { s.cq[n] with debits := s.cq[n].debits - 1, results := s.cq[n].results ++ [r] }

/-! ## The emergency engage claim -/

/-- Whether an intact LIVE record lets an emergency be engaged (R54, conditions 5 and 6). -/
def Body.mayEngage (b : Body) : Bool :=
  b.allowance != 0#32 && emergencyOfCode b.emergency == some .available
    && (creditOfCode b.credit == some .low || creditOfCode b.credit == some .exhausted)

/-- An emergency engage claim of channel n taken by the Store (R54, R55). -/
def State.engage (s : State) (n : Channel) (h : Handle) : State × EngageResult :=
  match s.resolve h with
  | none => (s, .declined)
  | some i =>
    if s.occupant n ≠ some i ∨ s.lifeAt i ≠ .live then (s, .declined)
    else if !s.intactAt i then ((s.check i).sendNotices s, .declined)
    else if !(s.bodyAt i).mayEngage then (s, .declined)
    else
      let after := s.conclude i { s.bodyAt i with emergency := emergencyCode .inUse } false
      (after.sendNotices s,
        .taken (creditOfCode (after.bodyAt i).credit) (emergencyOfCode (after.bodyAt i).emergency))

/-- The result of the engage claim sent back to Supply Controller n (R18). -/
def State.returnEngage (s : State) (n : Channel) (e : Engage) (r : EngageResult) : State :=
  s.setSc n { s.sc[n] with engage := some { e with answer := some r } }

/-! ## The commands -/

/-- TOP_UP: the Store takes the claim of the Request Engine whole. -/
def execTopUp (s : State) : Result :=
  match s.claim with
  | some (.topUp a) => .next (if s.storeTakes then s.finishClaim (s.topUp a) else s)
  | _ => .next s

/-- ADJUST: the Store takes the claim of the Request Engine whole. -/
def execAdjust (s : State) : Result :=
  match s.claim with
  | some (.adjust a) => .next (if s.storeTakes then s.finishClaim (s.adjust a) else s)
  | _ => .next s

/-- SET_LIMITS: the Store takes the claim of the Request Engine whole. -/
def execSetLimits (s : State) : Result :=
  match s.claim with
  | some (.setLimits a) => .next (if s.storeTakes then s.finishClaim (s.setLimits a) else s)
  | _ => .next s

/-- Whether a debit claim of channel n waits at the Store and the Store takes claims. -/
def State.debitDue (s : State) (n : Channel) : Bool := s.storeTakes && 0 < s.cq[n].debits

/-- QUANTUM_DEBIT: the Store takes a debit claim of Channel Quantizer n whole. -/
def execQuantumDebit (n : Channel) (s : State) : Result :=
  .next (if s.debitDue n then (s.quantumDebit n).1.returnDebit n (s.quantumDebit n).2 else s)

/-- The engage claim of channel n that waits at the Store, if the Store takes claims (R114). -/
def State.engageDue (s : State) (n : Channel) : Option Engage :=
  if s.storeTakes then s.sc[n].engage.filter fun e => e.answer == none else none

/-- EMERGENCY_ENGAGE: the Store takes the engage claim of Supply Controller n whole. -/
def execEmergencyEngage (n : Channel) (s : State) : Result :=
  match s.engageDue n with
  | none => .next s
  | some e => .next ((s.engage n e.handle).1.returnEngage n e (s.engage n e.handle).2)

end Sys2Proof.Machine
end

