-- ==== Sys2Proof/Machine/LifeCycle.lean ====
section
/-! DEFINITION. The requests of the account life cycle: OPEN, CLOSE, RELEASE, REWRITE and DISCARD
(Chapter 2). -/

namespace Sys2Proof.Machine

/-! ## OPEN -/

/-- The lowest FREE slot (R2). -/
def State.freeSlot (s : State) : Option Slot := slots.find? fun i => s.lifeAt i == .free

/-- The record that OPEN writes, before its evaluation (R30). -/
def openBody (a : OpenArgs) (serial : BitVec 32) : Body where
  channel := count8 a.channel.val
  reference := a.reference
  tariff := a.tariff
  credit := 0#8
  emergency := emergencyCode (if a.allowance = 0#32 then .none else .available)
  flags := 0#8
  balance := a.opening
  threshold := a.threshold
  allowance := a.allowance
  opening := a.opening
  credited := 0#48
  debited := 0#48
  quanta := 0#32
  version := 0#16
  serial := serial
  lastLevy := 0#16
  vouchers := []
  closing := none

/-- The allocation of slot i and the writing of its record (R2, R4, R30, R31). -/
def State.openAt (s : State) (i : Slot) (a : OpenArgs) : Taken :=
  let g := nextGeneration (s.slotAt i).counter
  let serial := s.store.openSerial + 1#32
  let h := handleOf i g
  let live := s.occupant a.channel = none
  let written := openBody a serial
  let b := if live then written.evaluated false else written
  let life : Life := if live then .live else .waiting
  let list := s.listAt a.channel
  let s := { s with store := { s.store with openSerial := serial } }
  let s := s.putRecord i { life := life, generation := g, counter := g, body := b, word := 0#16 }
  let s := s.setList a.channel (if live then h :: list else list ++ [h])
  let s := if live then s.raiseEntered i 0#8 b.credit else s
  let s := (s.dirtyAccount i).dirty .store .settings
  { state := s, outcome := .ok, payload := le16 h ++ [lifeCode life] ++ le32 serial ++ [b.credit] }

/-- OPEN (R29 to R31). -/
def State.openAccount (s : State) (a : OpenArgs) : Taken :=
  match s.freeSlot with
  | none => .refused s .tableFull
  | some i =>
    if s.store.openSerial = serialLimit then .refused s .limitExceeded
    else
      let s := s.checkCompared slots
      if slots.any (s.carries a.reference) then .refused s .duplicateReference
      else if channelCapacity ≤ (s.listAt a.channel).length then .refused s .channelFull
      else s.openAt i a

/-! ## CLOSE -/

/-- The handle of a promoted account, or 0 (R33). -/
def State.promotedHandle (s : State) (promoted : Option Slot) : Handle :=
  match promoted with
  | none => 0#16
  | some j => s.handleAt j

/-- The record that CLOSE leaves (R32). -/
def Body.closed (b : Body) : Body :=
  { b with closing := some { balance := b.balance, reason := hostClose }, credit := 0#8, version := b.version + 1#16 }

/-- A CLOSE that has passed its checks (R32, R33). -/
def State.closeAt (s : State) (i : Slot) : Taken :=
  let b := (s.bodyAt i).closed
  let written := (s.putRecord i { s.slotAt i with life := .settled, body := b }).dirtyAccount i
  let (after, promoted) := written.leaveList s i
  { state := after, outcome := .ok
    payload := le32 b.balance ++ le16 b.version ++ le16 (after.promotedHandle promoted) }

/-- CLOSE (R32). -/
def State.close (s : State) (h : Handle) (expected : Option (BitVec 16)) : Taken :=
  match s.named h with
  | .refused s o => .refused s o
  | .found i =>
    if s.lifeAt i = .settled then .refused s .wrongState
    else if staleVersion expected (s.bodyAt i) then .stale s (s.bodyAt i)
    else s.closeAt i

/-! ## RELEASE -/

/-- The closing balance that a record holds, 0 if it holds no close info (R10). -/
def Body.closingBalance (b : Body) : BitVec 32 :=
  match b.closing with
  | none => 0#32
  | some c => c.balance

/-- A slot returned to FREE by RELEASE or DISCARD (R5): its item is dirtied and its entry removed. -/
def State.freeSlotAt (s : State) (i : Slot) : State :=
  ((s.setSlot i (freeForm i (s.slotAt i).counter)).dirtyAccount i).removeEntry i

/-- RELEASE (R34). -/
def State.release (s : State) (h : Handle) : Taken :=
  match s.named h with
  | .refused s o => .refused s o
  | .found i =>
    if s.lifeAt i ≠ .settled then .refused s .wrongState
    else
      { state := s.freeSlotAt i, outcome := .ok
        payload := le32 (s.bodyAt i).balance ++ le32 (s.bodyAt i).closingBalance }

/-! ## REWRITE -/

/-- The life state that a target names. -/
def Target.life : Target → Life
  | .waiting => .waiting
  | .live => .live
  | .settled => .settled

/-- Whether a life state is QUARANTINED. -/
def isQuarantined : Life → Bool
  | .quarantined _ => true
  | .free | .waiting | .live | .settled | .lost => false

/-- Whether a life state is LIVE or held LIVE: its credit state is present (R5). -/
def hasCredit : Life → Bool := occupies

/-- Whether channel n has an occupant other than slot i (R35). -/
def State.otherOccupant (s : State) (n : Channel) (i : Slot) : Bool :=
  match s.occupant n with
  | none => false
  | some j => j != i

/-- The resulting life state of a REWRITE (R37). -/
def State.rewrittenLife (s : State) (a : RewriteArgs) (i : Slot) : Life :=
  match a.target with
  | .settled => .settled
  | .live => .live
  | .waiting => if s.otherOccupant a.channel i then .waiting else .live

/-- The opening balance that REWRITE computes (R36). -/
def Body.computedOpening (b : Body) : Int := b.balance.toInt - b.credited.toNat + b.debited.toNat

/-- Whether the limits of check 9 are passed (R35). -/
def Body.reconcilable (b : Body) : Bool :=
  balMin ≤ b.balance.toInt && b.balance.toInt ≤ balMax && -100000000 ≤ b.computedOpening
    && b.computedOpening ≤ 100000000

/-- A voucher list without zeros and without a number at a later place again (R36). -/
def cleanVouchers (seen : List (BitVec 32)) : List (BitVec 32) → List (BitVec 32)
  | [] => []
  | v :: vs => if v = 0#32 ∨ v ∈ seen then cleanVouchers seen vs else v :: cleanVouchers (v :: seen) vs

/-- The emergency status that REWRITE leaves (R36). -/
def rewrittenEmergency (b : Body) (allowance : BitVec 32) (result : Life) : Byte :=
  if allowance = 0#32 then emergencyCode .none
  else
    match emergencyOfCode b.emergency with
    | none => emergencyCode .available
    | some .none => emergencyCode .available
    | some .inUse => if result = .live then b.emergency else emergencyCode .available
    | some .available => b.emergency
    | some .spent => b.emergency

/-- The record that REWRITE writes, before its evaluation (R36). -/
def rewrittenBody (b : Body) (a : RewriteArgs) (life result : Life) : Body :=
  { b with
    channel := count8 a.channel.val
    reference := a.reference
    tariff := a.tariff
    threshold := a.threshold
    allowance := a.allowance
    opening := BitVec.ofInt 32 b.computedOpening
    flags := 0#8
    vouchers := cleanVouchers [] b.vouchers
    closing := if result = .settled then (b.shown life).closing else none
    emergency := rewrittenEmergency b a.allowance result
    version := b.version + 1#16
    credit := 0#8 }

/-- A handle placed among waiting accounts by open serial (R24).  DESIGN CHOICE (log 40): where a damaged record makes
serials equal or leaves the list unordered, the account stands behind equal serials and ahead of the first higher
one. -/
def State.insertBySerial (s : State) (i : Slot) : List Handle → List Handle
  | [] => [s.handleAt i]
  | h :: rest =>
    if (s.bodyAt i).serial < (s.bodyAt (slotOf h)).serial then s.handleAt i :: h :: rest
    else h :: s.insertBySerial i rest

/-- A list with the account of slot i placed in it as its life state calls for (R24, R37): the occupant in the
first place, a waiting account behind the occupant by open serial. -/
def State.placed (s : State) (i : Slot) (others : List Handle) : List Handle :=
  match s.lifeAt i with
  | .live => s.handleAt i :: others
  | .free | .waiting | .settled | .lost | .quarantined _ =>
    match others with
    | [] => [s.handleAt i]
    | first :: rest => first :: s.insertBySerial i rest

/-- The placing of an account that leaves quarantine (R37).  `s0` is the state at the claim's start, `s` the
state with the record written. -/
def State.replaceInLists (s s0 : State) (i : Slot) (n : Channel) : State :=
  let h := s0.handleAt i
  match s.lifeAt i with
  | .settled => (s.leaveList s0 i).1
  | .free | .waiting | .live | .lost | .quarantined _ =>
    let left := if s0.channelOf h = some n then s.setList n ((s.listAt n).erase h) else (s.leaveList s0 i).1
    left.setList n (left.placed i (left.listAt n))

/-- A REWRITE that has passed its checks (R36, R37). -/
def State.rewriteAt (s : State) (i : Slot) (a : RewriteArgs) : Taken :=
  let life := s.lifeAt i
  let result := s.rewrittenLife a i
  let plain := rewrittenBody (s.bodyAt i) a life result
  let b := if result = .live then plain.evaluated false else plain
  let start := if hasCredit life then (s.bodyAt i).credit else 0#8
  let freed := if isQuarantined life then s.setRu (s.ru.liftBar i) else s
  let written := freed.putRecord i { s.slotAt i with life := result, body := b }
  let raised := if result = .live then written.raiseEntered i start b.credit else written
  let dirtied := raised.dirtyAccount i
  let after := if isQuarantined life then dirtied.replaceInLists s i a.channel else dirtied
  { state := after, outcome := .ok
    payload := [lifeCode result] ++ le16 b.version ++ le32 b.opening ++ [b.credit] }

/-- Checks 4 to 9 of REWRITE (R35), for a record of slot i that has passed check 3. -/
def State.rewriteChecked (s : State) (i : Slot) (a : RewriteArgs) : Taken :=
  let life := s.lifeAt i
  let b := s.bodyAt i
  if staleVersion a.expected b then .stale s b
  else if !isQuarantined life ∧ (a.target.life ≠ life ∨ b.channel ≠ count8 a.channel.val) then
    .refused s .wrongState
  else
    let others := slots.filter (· != i)
    let s := s.checkCompared others
    if others.any (s.carries a.reference) then .refused s .duplicateReference
    else if a.target = .live ∧ s.otherOccupant a.channel i then .refused s .wrongState
    else if a.target ≠ .settled ∧ s.handleAt i ∉ s.listAt a.channel
        ∧ channelCapacity ≤ (s.listAt a.channel).length then
      .refused s .channelFull
    else if !b.reconcilable then .refused s .limitExceeded
    else s.rewriteAt i a

/-- REWRITE (R35 to R37). -/
def State.rewrite (s : State) (a : RewriteArgs) : Taken :=
  match s.resolve a.handle with
  | none => .refused s .noSuchAccount
  | some i =>
    match s.lifeAt i with
    | .lost => .refused s .wrongState
    | .free => .refused s .noSuchAccount
    | .quarantined _ => (s.check i).rewriteChecked i a
    | .waiting | .live | .settled =>
      if s.intactAt i then s.rewriteChecked i a else .refused (s.check i) .integrity

/-! ## DISCARD -/

/-- A DISCARD of a QUARANTINED or LOST record that is taken (R38). -/
def State.discardAt (s : State) (i : Slot) : Taken :=
  let freed := if isQuarantined (s.lifeAt i) then s.setRu (s.ru.liftBar i) else s
  let left := (freed.leaveList s i).1
  { state := left.freeSlotAt i, outcome := .ok, payload := [] }

/-- DISCARD (R38). -/
def State.discard (s : State) (h : Handle) : Taken :=
  match s.resolve h with
  | none => .refused s .noSuchAccount
  | some i =>
    match s.lifeAt i with
    | .quarantined _ => (s.check i).discardAt i
    | .lost => (s.check i).discardAt i
    | .free => .refused s .noSuchAccount
    | .waiting | .live | .settled =>
      if s.intactAt i then .refused s .wrongState else .refused (s.check i) .integrity

/-! ## The commands -/

/-- OPEN: the Store takes the claim of the Request Engine whole. -/
def execOpenAccount (s : State) : Result :=
  match s.claim with
  | some (.openAccount a) => .next (if s.storeTakes then s.finishClaim (s.openAccount a) else s)
  | _ => .next s

/-- CLOSE: the Store takes the claim of the Request Engine whole. -/
def execClose (s : State) : Result :=
  match s.claim with
  | some (.close h expected) => .next (if s.storeTakes then s.finishClaim (s.close h expected) else s)
  | _ => .next s

/-- RELEASE: the Store takes the claim of the Request Engine whole. -/
def execRelease (s : State) : Result :=
  match s.claim with
  | some (.release h) => .next (if s.storeTakes then s.finishClaim (s.release h) else s)
  | _ => .next s

/-- REWRITE: the Store takes the claim of the Request Engine whole. -/
def execRewrite (s : State) : Result :=
  match s.claim with
  | some (.rewrite a) => .next (if s.storeTakes then s.finishClaim (s.rewrite a) else s)
  | _ => .next s

/-- DISCARD: the Store takes the claim of the Request Engine whole. -/
def execDiscard (s : State) : Result :=
  match s.claim with
  | some (.discard h) => .next (if s.storeTakes then s.finishClaim (s.discard h) else s)
  | _ => .next s

end Sys2Proof.Machine
end

