-- ==== Sys2Proof/Machine/Metering.lean ====
section
/-! DEFINITION. The Channel Quantizers: the pulse recogniser, pulses, quanta and the creep window, debit results,
CONFIGURE_CHANNEL, the quantizer's half of READ_CHANNEL, and BILL_UNBILLED (Chapter 5). -/

namespace Sys2Proof.Machine

/-- Channel Quantizer n. -/
def State.cqAt (s : State) (n : Channel) : Quantizer := s.cq[n]

/-- The greatest value of the creep discard count and of the unbilled count (R85). -/
def countLimit : Nat := 65535

/-! ## Pulses -/

/-- A recogniser after the input is seen at a level (R87, R112): an assertion in waiting for assertion begins to
qualify, a deassertion returns to waiting for assertion. -/
def Recogniser.edge (r : Recogniser) (level : Bool) : Recogniser :=
  match r with
  | .waitDeassert => if level then .waitDeassert else .waitAssert
  | .waitAssert => if level then .qualifying 0 else .waitAssert
  | .qualifying k => if level then .qualifying k else .waitAssert

/-- PULSE_RECOGNISER_EDGE: PLS[n] is seen at a level (R87).  In RESTORING the recogniser stays as it is
(R100). -/
def execPulseRecogniserEdge (n : Channel) (level : Bool) (s : State) : Result :=
  let seen := { s with pins := { s.pins with pls := setWith s.pins.pls n.val level } }
  .next
    (if s.ru.power = .restoring then seen
     else seen.setCq n { s.cqAt n with recogniser := (s.cqAt n).recogniser.edge level })

/-- Whether a supply state makes a quantum raise FLOW_WHILE_OPEN (R90). -/
def flowsWhileOpen : SupplyState → Bool
  | .opened | .armed | .fault _ => true
  | .closing | .closed | .opening | .adopting => false

/-- A quantum formed by Channel Quantizer n (R90): FLOW_WHILE_OPEN if the supply is open, and a debit claim. -/
def State.formQuantum (s : State) (n : Channel) : State :=
  let raised :=
    if flowsWhileOpen s.sc[n].state then s.raise (.quantizer n) (.channel n .flowWhileOpen) else s
  raised.setCq n { raised.cqAt n with debits := (raised.cqAt n).debits + 1 }

/-- A pulse event at Channel Quantizer n (R88). -/
def State.pulse (s : State) (n : Channel) : State :=
  let q := s.cqAt n
  match q.accumulation with
  | .idle =>
    if q.config.divisor ≤ 1 then s.formQuantum n
    else s.setCq n { q with accumulation := .accumulating 1 (q.config.window * 1000) }
  | .accumulating count left =>
    if count + 1 < q.config.divisor then s.setCq n { q with accumulation := .accumulating (count + 1) left }
    else (s.setCq n { q with accumulation := .idle }).formQuantum n

/-- Whether the pulse recogniser of channel n can deliver a pulse now (R87, R100). -/
def State.pulseDue (s : State) (n : Channel) : Bool :=
  match (s.cqAt n).recogniser with
  | .qualifying _ => s.ru.power != .restoring
  | .waitDeassert | .waitAssert => false

/-- PULSE_EVENT: the recogniser of channel n delivers one pulse (R87, R88). -/
def execPulseEvent (n : Channel) (s : State) : Result :=
  .next
    (if s.pulseDue n then (s.setCq n { s.cqAt n with recogniser := .waitDeassert }).pulse n else s)

/-- WINDOW_TIMER_EXPIRY: the partial count of channel n is discarded (R89). -/
def execWindowTimerExpiry (n : Channel) (s : State) : Result :=
  match (s.cqAt n).accumulation with
  | .idle => .next s
  | .accumulating _ _ =>
    .next (s.setCq n
      { s.cqAt n with accumulation := .idle, creep := min ((s.cqAt n).creep + 1) countLimit })

/-! ## Debit results -/

/-- A debit result at Channel Quantizer n (R91). -/
def State.takeDebitResult (s : State) (n : Channel) (r : DebitResult) (rest : List DebitResult) : State :=
  let q := { s.cqAt n with results := rest }
  match r with
  | .taken => s.setCq n q
  | .refused =>
    if q.unbilled < countLimit then
      let counted := s.setCq n { q with unbilled := q.unbilled + 1 }
      if q.unbilled + 1 = countLimit then counted.raise (.quantizer n) (.channel n .unbilledFull) else counted
    else s.setCq n q

/-- DEBIT_RESULT: Channel Quantizer n acts on the oldest result that reached it. -/
def execDebitResult (n : Channel) (s : State) : Result :=
  match (s.cqAt n).results with
  | [] => .next s
  | r :: rest => .next (s.takeDebitResult n r rest)

/-! ## CONFIGURE_CHANNEL and READ_CHANNEL -/

/-- The partial count of a quantizer. -/
def Quantizer.partialCount (q : Quantizer) : Nat :=
  match q.accumulation with
  | .idle => 0
  | .accumulating count _ => count

/-- The time left in the window in ms, 0 when the timer is stopped (R95). -/
def Quantizer.windowLeft (q : Quantizer) : Nat :=
  match q.accumulation with
  | .idle => 0
  | .accumulating _ left => left

/-- Whether a new configuration clears the partial count (R93). -/
def Quantizer.reshaped (q : Quantizer) (c : ChannelConfig) : Bool :=
  c.divisor != q.config.divisor || c.window != q.config.window

/-- A quantizer with a new configuration (R93). -/
def Quantizer.configured (q : Quantizer) (c : ChannelConfig) : Quantizer :=
  { q with config := c, accumulation := if q.reshaped c then .idle else q.accumulation }

/-- The payload of CONFIGURE_CHANNEL (Table 10-6): the pulses cleared and the configuration. -/
def Quantizer.configuredReport (q : Quantizer) (c : ChannelConfig) : List Byte :=
  count16 (if q.reshaped c then q.partialCount else 0) ++ count16 c.divisor ++ count16 c.window
    ++ count16 c.timeout ++ [yesNo c.reconnect, yesNo c.reclose]

/-- CONFIGURE_CHANNEL at Channel Quantizer n (R93). -/
def State.configure (s : State) (n : Channel) (c : ChannelConfig) : State :=
  let after := s.setCq n ((s.cqAt n).configured c)
  let dirtied := if c = (s.cqAt n).config then after else after.dirty (.quantizer n) .settings
  dirtied.answer .ok ((s.cqAt n).configuredReport c)

/-- CONFIGURE_CHANNEL. -/
def execConfigureChannel (s : State) : Result :=
  match s.claim with
  | some (.configureChannel n c) => .next (s.configure n c)
  | _ => .next s

/-- The quantizer's half of READ_CHANNEL: offsets 0 to 18 of Table 10-11. -/
def Quantizer.report (q : Quantizer) : List Byte :=
  [if q.accumulation = .idle then 1#8 else 2#8] ++ count16 q.partialCount ++ leBytes 4 q.windowLeft
    ++ count16 q.creep ++ count16 q.unbilled ++ count16 q.config.divisor ++ count16 q.config.window
    ++ count16 q.config.timeout ++ [yesNo q.config.reconnect, yesNo q.config.reclose]

/-- The supply controller's half of READ_CHANNEL: offsets 19 to 23 of Table 10-11. -/
def Supply.report (c : Supply) : List Byte :=
  [yesNo c.hold, supplyCode c.state, faultCode c.state, yesNo c.drive, yesNo c.feedback]

/-- A part of READ_CHANNEL that has not been taken is put with the others; when both have returned the
response is formed (R176). -/
def channelPhase (n : Channel) (quantizer supply : Option (List Byte)) : Phase :=
  match quantizer, supply with
  | some q, some c => .answered { outcome := .ok, payload := q ++ c }
  | q, c => .channel n q c

/-- READ_CHANNEL: the named half takes its part (R95, R176). -/
def execReadChannel (half : ChannelHalf) (s : State) : Result :=
  match s.re with
  | some { phase := .channel n quantizer supply, .. } =>
    match half with
    | .quantizer => .next (if quantizer.isSome then s else s.setPhase (channelPhase n (some (s.cqAt n).report) supply))
    | .supply => .next (if supply.isSome then s else s.setPhase (channelPhase n quantizer (some s.sc[n].report)))
  | _ => .next s

/-! ## BILL_UNBILLED -/

/-- The checks of BILL_UNBILLED at the Store (R96); a claim that passes waits for the quantizer's count
(R97). -/
def State.billBegin (s : State) (n : Channel) (h : Handle) : State :=
  match s.named h with
  | .refused after o => s.finishClaim (.refused after o)
  | .found i =>
    if s.lifeAt i = .settled then s.answer .wrongState []
    else if h ∉ s.listAt n then s.answer .badArgument []
    else { s with store := { s.store with billing := some { channel := n, slot := i, count := none } } }

/-- The payload of an OK to BILL_UNBILLED (Table 10-6). -/
def State.billPayload (s : State) (i : Slot) (count amount : Nat) : List Byte :=
  count16 count ++ leBytes 4 amount ++ le32 (s.bodyAt i).balance ++ s.creditBytes i
    ++ [(s.bodyAt i).flags &&& 1#8]

/-- The completion of BILL_UNBILLED with the count that the quantizer returned (R97). -/
def State.billEnd (s : State) (i : Slot) (count : Nat) : State :=
  let b := s.bodyAt i
  let amount := count * (s.priceFor b).toNat
  let free := { s with store := { s.store with billing := none } }
  let after := if count = 0 then free else free.charge i b amount count
  s.finishClaim { state := after, outcome := .ok, payload := after.billPayload i count amount }

/-- BILL_UNBILLED: the Store takes the claim and makes its checks, or completes it when the count has returned
(R96, R97).  The two are one claim: in between the Store takes no other. -/
def execBillUnbilled (s : State) : Result :=
  match s.claim with
  | some (.billUnbilled n h) =>
    match s.store.billing with
    | none => .next (if s.storeTakes then s.billBegin n h else s)
    | some { slot := i, count := some u, .. } => .next (s.billEnd i u)
    | some { count := none, .. } => .next s
  | _ => .next s

/-- UNBILLED_COUNT_TAKE: Channel Quantizer n returns its count to the Store and sets it to 0 (R97). -/
def execUnbilledCountTake (n : Channel) (s : State) : Result :=
  match s.store.billing with
  | some b =>
    if b.channel = n ∧ b.count = none then
      .next
        { s.setCq n { s.cqAt n with unbilled := 0 } with
          store := { s.store with billing := some { b with count := some (s.cqAt n).unbilled } } }
    else .next s
  | none => .next s

end Sys2Proof.Machine
end

