-- ==== Sys2Proof/Machine/SupplyControl.lean ====
section
/-! DEFINITION. The Supply Controllers: notices and evaluation, contactor operations and faults, the tenant's
button, the requests SET_HOLD, RECONNECT and CLEAR_FAULT, and adoption (Chapter 6). -/

namespace Sys2Proof.Machine

/-- Supply Controller n. -/
def State.scAt (s : State) (n : Channel) : Supply := s.sc[n]

/-- Whether a view's credit state is EXHAUSTED. -/
def View.exhausted : View → Bool
  | .live _ (some .exhausted) _ => true
  | .live _ _ _ | .vacant | .quarantined => false

/-- Whether a credit state permits supply: NORMAL, LOW or EMERGENCY (R105, R115). -/
def permitsSupply : Option Credit → Bool
  | some .normal | some .low | some .emergency => true
  | some .exhausted | none => false

/-- Opening demanded (R105). -/
def Supply.openingDemanded (c : Supply) : Bool := c.view == .vacant || (c.view.exhausted && !c.hold)

/-- Arming allowed (R105). -/
def Supply.armingAllowed (c : Supply) : Bool :=
  match c.view with
  | .live _ credit _ => permitsSupply credit
  | .vacant | .quarantined => false

/-- The feedback timeout that Supply Controller n reads from Channel Quantizer n (R86). -/
def State.timeoutOf (s : State) (n : Channel) : Nat := (s.cqAt n).config.timeout

/-- An opening begins (R107). -/
def State.beginOpening (s : State) (n : Channel) : State :=
  s.setSc n { s.scAt n with state := .opening, drive := false, timer := some (s.timeoutOf n) }

/-- A closing begins (R108). -/
def State.beginClosing (s : State) (n : Channel) : State :=
  s.setSc n { s.scAt n with state := .closing, drive := true, timer := some (s.timeoutOf n) }

/-- Entry to FAULT (R110). -/
def State.enterFault (s : State) (n : Channel) (kind : FaultKind) : State :=
  (s.setSc n { s.scAt n with state := .fault kind, drive := false, timer := none }).raise (.supply n)
    (.channel n .supplyFault)

/-- An evaluation at Supply Controller n (R106). -/
def State.evaluate (s : State) (n : Channel) : State :=
  let c := s.scAt n
  match c.state with
  | .closed => if c.openingDemanded then s.beginOpening n else s
  | .opened =>
    if c.armingAllowed then (s.setSc n { c with state := .armed }).raise (.supply n) (.channel n .armed) else s
  | .armed => if c.armingAllowed then s else s.setSc n { c with state := .opened }
  | .opening | .closing | .fault _ | .adopting => s

/-! ## Notices, feedback and the operation timer -/

/-- A notice taken (R104). -/
def State.takeNotice (s : State) (n : Channel) (v : View) (rest : List View) : State :=
  (s.setSc n { s.scAt n with view := v, notices := rest }).evaluate n

/-- NOTICE: Supply Controller n takes the oldest notice sent to it. -/
def execNotice (n : Channel) (s : State) : Result :=
  match (s.scAt n).notices with
  | [] => .next s
  | v :: rest => .next (s.takeNotice n v rest)

/-- The filtered feedback level of channel n replaced; the input's last sample shows it too (R103). -/
def State.setFeedback (s : State) (n : Channel) (level : Bool) : State :=
  { s.setSc n { s.scAt n with feedback := level, feedbackRun := 0 } with
    pins := { s.pins with fbk := setWith s.pins.fbk n.val level } }

/-- A feedback event at Supply Controller n (R107 to R110). -/
def State.feedbackChanged (s : State) (n : Channel) (level : Bool) : State :=
  let seen := s.setFeedback n level
  match (s.scAt n).state with
  | .opening => if level then seen else (seen.setSc n { seen.scAt n with state := .opened, timer := none }).evaluate n
  | .closing => if level then (seen.setSc n { seen.scAt n with state := .closed, timer := none }).evaluate n else seen
  | .closed => if level then seen else seen.enterFault n .dropped
  | .opened => if level then seen.enterFault n .welded else seen
  | .armed => if level then seen.enterFault n .welded else seen
  | .fault _ | .adopting => seen

/-- FEEDBACK_EVENT: the filtered level of FBK[n] becomes `level`. -/
def execFeedbackEvent (n : Channel) (level : Bool) (s : State) : Result :=
  .next (if (s.scAt n).feedback = level then s else s.feedbackChanged n level)

/-- OPERATION_TIMER_EXPIRY: an opening or closing was not confirmed in time (R107, R108).  A timer that does not run does
not expire.  Given as a command, the row says that the time of the running timer is over (log 4); from the time base
it comes only at the timer's last count. -/
def execOperationTimerExpiry (n : Channel) (s : State) : Result :=
  match (s.scAt n).timer, (s.scAt n).state with
  | some _, .opening => .next (s.enterFault n .stuckClosed)
  | some _, .closing => .next (s.enterFault n .failToClose)
  | some _, .opened | some _, .armed | some _, .closed | some _, .fault _ | some _, .adopting => .next s
  | none, _ => .next s

/-! ## The button -/

/-- BUTTON_RECOGNISER_EDGE: BTN[n] is seen at a level (R112).  In ADOPTING the recogniser stays as it is
(R122). -/
def execButtonRecogniserEdge (n : Channel) (level : Bool) (s : State) : Result :=
  let seen := { s with pins := { s.pins with btn := setWith s.pins.btn n.val level } }
  .next
    (if (s.scAt n).state = .adopting then seen
     else seen.setSc n { s.scAt n with button := (s.scAt n).button.edge level })

/-- Whether a press asks for emergency credit, and with which handle (R113). -/
def Supply.pressEngages (c : Supply) : Option Handle :=
  match c.state, c.view with
  | .opened, .live h (some .exhausted) (some .available) => some h
  | .closed, .live h (some .exhausted) (some .available) => some h
  | .closed, .live h (some .low) (some .available) => some h
  | _, _ => none

/-- A press at Supply Controller n (R113, R114). -/
def State.press (s : State) (n : Channel) : State :=
  let c := s.scAt n
  if c.state = .armed then s.beginClosing n
  else
    match c.pressEngages, c.engage with
    | some h, none =>
      s.setSc n { c with engage := some { handle := h, fromClosed := c.state == .closed, answer := none } }
    | _, _ => s

/-- Whether the button recogniser of channel n is qualifying (R112). -/
def Recogniser.isQualifying : Recogniser → Bool
  | .qualifying _ => true
  | .waitDeassert | .waitAssert => false

/-- PRESS: the button recogniser of channel n delivers one press; in RESTORING it delivers none (R112). -/
def execPress (n : Channel) (s : State) : Result :=
  let done := s.setSc n { s.scAt n with button := .waitDeassert }
  .next
    (if (s.scAt n).button.isQualifying then (if s.ru.power = .restoring then done else done.press n) else s)

/-- What the result of an engage claim does (R115), the outstanding record being cleared. -/
def State.engageResolved (s : State) (n : Channel) (e : Engage) (r : EngageResult) : State :=
  let c := s.scAt n
  match r, c.view with
  | .taken credit _, .live h _ _ =>
    if h = e.handle ∧ !e.fromClosed ∧ (c.state = .opened ∨ c.state = .armed) then
      if permitsSupply credit then s.beginClosing n else s.evaluate n
    else s
  | _, _ => s

/-- ENGAGE_RESULT: Supply Controller n acts on the result of its engage claim. -/
def execEngageResult (n : Channel) (s : State) : Result :=
  match (s.scAt n).engage with
  | some e =>
    match e.answer with
    | some r => .next ((s.setSc n { s.scAt n with engage := none }).engageResolved n e r)
    | none => .next s
  | none => .next s

/-! ## Requests -/

/-- The parts of SET_HOLD that have returned; when all have, the response is formed (R117, R176). -/
def holdPhase (mask : BitVec 8) (set : Bool) (flags : Vector (Option Bool) 8) : Phase :=
  if channels.all fun n => flags[n].isSome then
    .answered { outcome := .ok, payload := [channelSet (Vector.ofFn fun n => flags[n].getD false)] }
  else .hold mask set flags

/-- The part of SET_HOLD that Supply Controller n takes (R117). -/
def State.applyHold (s : State) (n : Channel) (mask : BitVec 8) (set : Bool) : State :=
  if setHas mask n.val ∧ (s.scAt n).hold ≠ set then
    ((s.setSc n { s.scAt n with hold := set }).dirty (.supply n) .settings).evaluate n
  else s

/-- SET_HOLD: Supply Controller n takes its part and returns its hold flag. -/
def execSetHold (n : Channel) (s : State) : Result :=
  match s.re with
  | some { phase := .hold mask set flags, .. } =>
    if flags[n].isSome then .next s
    else
      .next ((s.applyHold n mask set).setPhase (holdPhase mask set (flags.set n (some ((s.applyHold n mask set).scAt n).hold))))
  | _ => .next s

/-- RECONNECT at Supply Controller n (R116). -/
def State.takeReconnect (s : State) (n : Channel) : State :=
  if (s.scAt n).state = .armed ∧ (s.cqAt n).config.reconnect then
    (s.beginClosing n).answer .ok [supplyCode .closing]
  else s.answer .wrongState [supplyCode (s.scAt n).state]

/-- RECONNECT. -/
def execReconnect (s : State) : Result :=
  match s.claim with
  | some (.reconnect n) => .next (s.takeReconnect n)
  | _ => .next s

/-- Whether a supply state is FAULT. -/
def isFault : SupplyState → Bool
  | .fault _ => true
  | .opened | .armed | .closing | .closed | .opening | .adopting => false

/-- The payload of CLEAR_FAULT: supply state and fault kind (Table 10-6). -/
def State.faultReport (s : State) (n : Channel) : List Byte :=
  [supplyCode (s.scAt n).state, faultCode (s.scAt n).state]

/-- CLEAR_FAULT at Supply Controller n (R111). -/
def State.takeClearFault (s : State) (n : Channel) : State :=
  if isFault (s.scAt n).state ∧ !(s.scAt n).feedback then
    let after := (s.setSc n { s.scAt n with state := .opened }).evaluate n
    after.answer .ok (after.faultReport n)
  else s.answer .wrongState (s.faultReport n)

/-- CLEAR_FAULT. -/
def execClearFault (s : State) : Result :=
  match s.claim with
  | some (.clearFault n) => .next (s.takeClearFault n)
  | _ => .next s

/-! ## Adoption -/

/-- The adopted state of channel n, from its drive latch, its feedback level and the kind of the reset
(R122). -/
def State.adoptState (s : State) (n : Channel) : State :=
  let c := s.scAt n
  match c.drive, c.feedback with
  | true, true => (s.setSc n { c with state := .closed }).evaluate n
  | true, false => s.beginClosing n
  | false, true => if s.ru.kind = .powerOn then s.enterFault n .welded else s.beginOpening n
  | false, false =>
    if s.ru.kind = .powerOn ∧ c.armingAllowed ∧ (s.cqAt n).config.reclose then s.beginClosing n
    else (s.setSc n { c with state := .opened }).evaluate n

/-- Whether the adopt command of channel n can be taken: it has been sent, the notice of restore has been taken,
and the raises of the stage before have been taken (R122, R159). -/
def State.adoptDue (s : State) (n : Channel) : Bool :=
  (s.scAt n).adopt && (s.scAt n).notices.isEmpty && (s.scAt n).state == .adopting && s.au.inbox.isEmpty

/-- ADOPT: Supply Controller n takes the adopt command (R122). -/
def execAdopt (n : Channel) (s : State) : Result :=
  .next
    (if s.adoptDue n then (s.setSc n { s.scAt n with adopt := false, button := .waitDeassert }).adoptState n
     else s)

end Sys2Proof.Machine
end

