-- ==== Sys2Proof/Machine/Restore.lean ====
section
/-! DEFINITION. Resets and restore: the three resets, the classing of copies, the loading of items, the conflict
stages, the restore summary, and the end of restore (7.3.2, 7.5, 7.6). -/

namespace Sys2Proof.Machine

/-! ## Resets -/

/-- What a write cut off by a reset leaves at the place of its copy (R133). -/
def Cut.leaves (cut : Cut) (w : Write) (before : NvCopy) : NvCopy :=
  match cut with
  | .untouched => before
  | .torn => .torn
  | .stored => w.stored

/-- The array after a reset that cut off the write under way, if there was one (R133). -/
def Retention.cutArray (r : Retention) (cut : Cut) : PerItem Copies :=
  match r.engine with
  | .writing w => arrayWith r.array w.item w.copy (Cut.leaves cut w ((r.array.get w.item).get w.copy))
  | .idle => r.array
  | .snapshot _ => r.array

/-- The drive latch after a reset: deasserted after a power-on reset, else kept (R121). -/
def keptDrive (kind : ResetKind) (drive : Bool) : Bool :=
  match kind with
  | .powerOn => false
  | .pin => drive
  | .soft => drive

/-- Every block reset for a reset of the given kind, over what the array then holds (R22, R74, R75, R99, R121,
R134, R138, R158, R179).  The waiting commands and the samples to come are not the part's. -/
def State.resetTo (s : State) (kind : ResetKind) (array : PerItem Copies) (first : FirstSample) : State where
  store := .reset
  tu := .reset
  le := .reset
  cq := Vector.replicate 8 .reset
  sc := Vector.ofFn fun n => .reset (keptDrive kind s.sc[n].drive) (setHas first.fbk n.val)
  au := .reset
  ru := .reset kind first.pfw array
  hl := .reset first.csn
  re := none
  pins := { s.pins with fbk := first.fbk, pfw := first.pfw }
  samples := s.samples
  pending := s.pending

/-- POWER_ON_RESET (R133): takes effect at once. -/
def execPowerOnReset (cut : Cut) (first : FirstSample) (s : State) : Result :=
  .next (s.resetTo .powerOn (s.ru.cutArray cut) first)

/-- PIN_RESET (R133): takes effect at once. -/
def execPinReset (cut : Cut) (first : FirstSample) (s : State) : Result :=
  .next (s.resetTo .pin (s.ru.cutArray cut) first)

/-- Whether the soft reset takes effect: the stop has been answered by every block, the queue is empty, no
dirtying is on its way, and the engine is IDLE (R137). -/
def Retention.softResetDue (r : Retention) : Bool :=
  r.drained && r.inbox.isEmpty &&
    match r.stop with
    | none => false
    | some a => a.complete

/-- SOFT_RESET_EFFECT (R137). -/
def execSoftResetEffect (first : FirstSample) (s : State) : Result :=
  .next (if s.ru.softResetDue then s.resetTo .soft s.ru.array first else s)

/-! ## Stages -/

/-- Restore goes on with a stage. -/
def State.setStage (s : State) (stage : RestoreStage) : State := s.setRu { s.ru with stage := stage }

/-- Whether a stage of restore can begin: it is its turn, and the raises of the stage before have been taken
(R138, R159). -/
def State.stageDue (s : State) (stage : RestoreStage) : Bool :=
  s.ru.power == .restoring && s.ru.stage == stage && s.au.inbox.isEmpty

/-- The counts of the restore under way changed. -/
def State.tallied (s : State) (f : RestoreSummary) : State := s.setRu { s.ru with tally := f }

/-! ## Classing of copies -/

/-- Whether a copy's content is well formed for its item (R139). -/
def wellFormedFor (x : Item) (content : List Byte) : Bool :=
  match x with
  | .account i => (parseAccount i content).isSome
  | .tariff => (parseTariff content).isSome
  | .settings => (parseSettings content).isSome

/-- The class of a copy (R125, R139). -/
def classOf (x : Item) : NvCopy → CopyClass
  | .blank => .blank
  | .image serial content crc =>
    if crc = copyCrc serial content ∧ wellFormedFor x content then .valid serial else .invalid
  | .torn => .invalid

/-- The latest copy of an item: the valid one with the higher serial, A if they are equal (R125). -/
def latestOf (a b : CopyClass) : Option CopyId :=
  match a, b with
  | .valid m, .valid n => if m < n then some .b else some .a
  | .valid _, _ => some .a
  | _, .valid _ => some .b
  | _, _ => none

/-- The directory entry of an item, from its two copies (R139). -/
def entryOf (x : Item) (c : Copies) : DirectoryEntry where
  a := classOf x c.a
  b := classOf x c.b
  latest := latestOf (classOf x c.a) (classOf x c.b)

/-- The copy directory built from the array (R139). -/
def directoryOf (array : PerItem Copies) : PerItem DirectoryEntry where
  accounts := Vector.ofFn fun i => entryOf (.account i) array.accounts[i]
  tariff := entryOf .tariff array.tariff
  settings := entryOf .settings array.settings

/-- The outcome of an item (R139). -/
def DirectoryEntry.outcome (e : DirectoryEntry) : ItemOutcome :=
  if e.latest.isSome then .loaded else if e.a = .blank ∧ e.b = .blank then .blank else .lost

/-- Whether an item counts one torn commit (R139). -/
def DirectoryEntry.isTorn (e : DirectoryEntry) : Bool :=
  e.latest.isSome && (e.a == .invalid || e.b == .invalid)

/-- The 34 items. -/
def allItems : List Item := slots.map .account ++ [.tariff, .settings]

/-- CLASSIFY_COPIES (R139). -/
def execClassifyCopies (s : State) : Result :=
  if s.stageDue .classify then
    let d := directoryOf s.ru.array
    let torn := allItems.countP fun x => (d.get x).isTorn
    let tally :=
      { s.ru.tally with torn := torn, settings := d.settings.outcome, tariff := d.tariff.outcome }
    .next (s.setRu { s.ru with directory := some d, tally := tally, stage := .settings })
  else .next s

/-! ## Loading -/

/-- The content of an item's latest copy (R139). -/
def Retention.latestContent (r : Retention) (x : Item) : Option (List Byte) :=
  match (r.entry x).latest with
  | none => none
  | some which =>
    match (r.array.get x).get which with
    | .image _ content _ => some content
    | .blank => none
    | .torn => none

/-- A slot's generation counter replaced. -/
def State.setCounter (s : State) (i : Slot) (g : Generation) : State :=
  s.setSlot i { s.slotAt i with counter := g }

/-- The settings taken by the blocks that own them (R140). -/
def State.loadSettings (s : State) (x : Settings) : State :=
  { s with
    store := { s.store with slots := Vector.ofFn fun i => { s.store.slots[i] with counter := x.counters[i] } }
    tu := { s.tu with band := x.band }
    cq := Vector.ofFn fun n => { s.cq[n] with config := x.configs[n] }
    sc := Vector.ofFn fun n => { s.sc[n] with hold := x.holds[n] } }

/-- An item found LOST: its cause is raised and it joins the queue (R140). -/
def State.lostItem (s : State) (x : Item) (cause : DeviceCause) : State :=
  (s.setRu (s.ru.takeDirtying x)).raise .retention (.device cause)

/-- LOAD_SETTINGS_AND_TARIFF (R140): the settings item first, the tariff item second. -/
def execLoadSettingsAndTariff (s : State) : Result :=
  if s.stageDue .settings then
    let settings := ((s.ru.latestContent .settings).bind parseSettings).getD .default
    let bank := ((s.ru.latestContent .tariff).bind parseTariff).getD .zero
    let loaded := s.loadSettings settings
    let first := if s.ru.tally.settings = .lost then loaded.lostItem .settings .settingsLost else loaded
    let second := { first with tu := { first.tu with active := bank, shadow := bank } }
    let last := if s.ru.tally.tariff = .lost then second.lostItem .tariff .tariffLost else second
    .next (last.setStage (.accounts 0))
  else .next s

/-- A restored record written into its slot, the generation counter brought forward if the record's generation
is later (R22, R141).  DEDUCED (log 8): the change of a counter dirties the settings item, as R1 states. -/
def State.loadRecord (s : State) (i : Slot) (x : Loaded) : State :=
  let c := (s.slotAt i).counter
  let later := laterGeneration c x.generation
  let counter := if later then x.generation else c
  let loaded :=
    s.putRecord i { life := x.life, generation := x.generation, counter := counter, body := x.body, word := 0#16 }
  if later then loaded.dirty .store .settings else loaded

/-- A LOST item's slot (R22, R141). -/
def State.loadLost (s : State) (i : Slot) : State :=
  let c := (s.slotAt i).counter
  let g := if c = 0#11 then 1#11 else c
  let loaded := s.setSlot i (lostForm i g g)
  let counted := if c = 0#11 then loaded.dirty .store .settings else loaded
  (counted.dirtyAccount i).raiseSlot i .lost

/-- A BLANK item or the FREE form loaded into a slot (R5, R141): the FREE form is written with its word, the generation
counter kept; nothing is dirtied. -/
def State.loadFree (s : State) (i : Slot) : State := s.setSlot i (freeForm i (s.slotAt i).counter)

/-- One account item given to the Store (R141), counted in the summary. -/
def State.loadAccount (s : State) (i : Slot) : State :=
  let t := s.ru.tally
  match (s.ru.entry (.account i)).outcome with
  | .loaded =>
    let counted := s.tallied { t with restored := t.restored + 1 }
    match (s.ru.latestContent (.account i)).bind (parseAccount i) with
    | some x => if x.life = .free then counted.loadFree i else counted.loadRecord i x
    | none => counted
  | .blank => (s.tallied { t with blank := t.blank + 1 }).loadFree i
  | .lost => (s.tallied { t with lost := t.lost + 1 }).loadLost i

/-- The slot that restore loads next, if it is the turn of the account items and the raises of the stage before
have been taken (R141, R159). -/
def State.loadDue (s : State) : Option Slot :=
  match s.ru.stage with
  | .accounts k =>
    if h : k < 32 then
      if s.ru.power = .restoring ∧ (k = 0 → s.au.inbox = []) then some ⟨k, h⟩ else none
    else none
  | .classify | .settings | .references | .occupancy | .promotion | .summary | .adoption | .done => none

/-- RESTORE_LOAD (R141). -/
def execRestoreLoad (s : State) : Result :=
  match s.loadDue with
  | none => .next s
  | some i =>
    .next ((s.loadAccount i).setStage (if i.val = 31 then .references else .accounts (i.val + 1)))

/-! ## Conflicts -/

/-- Whether the account of slot j is newer than that of slot i: the higher open serial, the higher slot number
where the serials are equal (7.6.1). -/
def State.newer (s : State) (i j : Slot) : Bool :=
  (s.bodyAt i).serial < (s.bodyAt j).serial || ((s.bodyAt i).serial == (s.bodyAt j).serial && i.val < j.val)

/-- The close info that a conflict quarantine keeps (7.6.1). -/
def keptClose (x : SlotState) : Option CloseInfo := (x.body.shown x.life).closing

/-- A conflict quarantine (7.6.1): held SETTLED, without credit state, barred, QUARANTINED raised, and counted. -/
def State.conflict (s : State) (i : Slot) : State :=
  let x := s.slotAt i
  let b := { x.body with credit := 0#8, closing := keptClose x }
  let held := (s.putRecord i { x with life := .quarantined .settled, body := b }).raiseSlot i .quarantined
  let barred := held.setRu (held.ru.bar i)
  barred.tallied { barred.ru.tally with quarantined := barred.ru.tally.quarantined + 1 }

/-- Whether the account of slot i is in WAITING, LIVE or SETTLED. -/
def State.isAccount (s : State) (i : Slot) : Bool :=
  match s.lifeAt i with
  | .waiting | .live | .settled => true
  | .free | .lost | .quarantined _ => false

/-- The accounts that share a reference with a newer account (R142). -/
def State.referenceLosers (s : State) : List Slot :=
  slots.filter fun i =>
    s.isAccount i && slots.any fun j =>
      s.isAccount j && j != i && (s.bodyAt j).reference == (s.bodyAt i).reference && s.newer i j

/-- REFERENCE_CONFLICTS (R142). -/
def execReferenceConflicts (s : State) : Result :=
  if s.stageDue .references then .next ((s.referenceLosers.foldl State.conflict s).setStage .occupancy)
  else .next s

/-- Whether the account of slot i names channel n in its channel field. -/
def State.namesChannel (s : State) (n : Channel) (i : Slot) : Bool := (s.bodyAt i).channel == count8 n.val

/-- The LIVE accounts of channel n that are not the newest of them (R143). -/
def State.occupancyLosers (s : State) (n : Channel) : List Slot :=
  let live := slots.filter fun i => s.lifeAt i == .live && s.namesChannel n i
  live.filter fun i => live.any fun j => s.newer i j

/-- A slot put among others in ascending order of age, the oldest first. -/
def State.insertByAge (s : State) (i : Slot) : List Slot → List Slot
  | [] => [i]
  | j :: rest => if s.newer i j then i :: j :: rest else j :: s.insertByAge i rest

/-- The succession list of channel n from the accounts that remain (R143). -/
def State.rebuiltList (s : State) (n : Channel) : List Handle :=
  let bound := slots.filter (s.namesChannel n)
  let live := bound.filter fun i => s.lifeAt i == .live
  let waiting := bound.filter fun i => s.lifeAt i == .waiting
  (live ++ waiting.foldr s.insertByAge []).map s.handleAt

/-- OCCUPANCY_CONFLICTS (R143). -/
def execOccupancyConflicts (s : State) : Result :=
  if s.stageDue .occupancy then
    let settled := (channels.flatMap s.occupancyLosers).foldl State.conflict s
    let rebuilt :=
      { settled with store := { settled.store with lists := Vector.ofFn fun n => settled.rebuiltList n } }
    .next (rebuilt.setStage .promotion)
  else .next s

/-- Whether channel n has no occupant and an account in WAITING (R144). -/
def State.wantsPromotion (s : State) (n : Channel) : Bool :=
  (s.occupant n).isNone && (s.listAt n).any fun h => s.lifeAt (slotOf h) == .waiting

/-- The promotion of restore on one channel, counted (R144). -/
def State.promoteAtRestore (s : State) (n : Channel) : State :=
  if s.wantsPromotion n then
    match s.promote n with
    | (after, some _) => after.tallied { after.ru.tally with promoted := after.ru.tally.promoted + 1 }
    | (after, none) => after
  else s

/-- The accounts beyond the third of channel n's list, the newest first, given conflict quarantines and unbound
(R144).  DESIGN CHOICE (log 39): an account among them that the promotion's own check has just quarantined is given one
like a WAITING account. -/
def State.trimList (s : State) (n : Channel) : State :=
  let excess := ((s.listAt n).drop channelCapacity).reverse
  (excess.foldl (fun s h => s.conflict (slotOf h)) s).setList n ((s.listAt n).take channelCapacity)

/-- The messages that the Attention Unit takes for two parts of a stage: those of the second first. -/
def messagesReordered (before first second : List AttentionMessage) : List AttentionMessage :=
  before ++ second.drop before.length ++ first.drop before.length

/-- RESTORE_PROMOTION (R144): promotions, then the capacity check, each over the channels in ascending order (DEDUCED,
log 28).  The raises of the conflict quarantines stand ahead of those of the promotions, as R159 orders the list
(log 14). -/
def execRestorePromotion (s : State) : Result :=
  if s.stageDue .promotion then
    let promoted := channels.foldl State.promoteAtRestore s
    let trimmed := channels.foldl State.trimList (promoted.setAu { promoted.au with inbox := s.au.inbox })
    let inbox := messagesReordered s.au.inbox promoted.au.inbox trimmed.au.inbox
    .next ((trimmed.setAu { trimmed.au with inbox := inbox }).setStage .summary)
  else .next s

/-! ## End of restore -/

/-- The highest open serial of any loaded account (R22, R143). -/
def State.highestSerial (s : State) : BitVec 32 :=
  slots.foldl
    (fun m i => if hasReference (s.lifeAt i) ∧ m < (s.bodyAt i).serial then (s.bodyAt i).serial else m) 0#32

/-- The serial of a valid copy, 0 for another. -/
def CopyClass.serial : CopyClass → BitVec 32
  | .valid n => n
  | .blank => 0#32
  | .invalid => 0#32

/-- The highest serial of any valid copy (R143). -/
def Retention.highestCommit (r : Retention) : BitVec 32 :=
  allItems.foldl
    (fun m x =>
      let e := r.entry x
      let m := if m < e.a.serial then e.a.serial else m
      if m < e.b.serial then e.b.serial else m)
    0#32

/-- Every Supply Controller is sent its restore notice and its adopt command (R28, R145). -/
def State.sendAdoption (s : State) : State :=
  { s with
    sc := Vector.ofFn fun n => { s.sc[n] with notices := s.sc[n].notices ++ [s.viewOf n], adopt := true } }

/-- RESTORE_SUMMARY (R143, R145, R146): the counters are set, the summary stored, RESTORED raised, and the
notices and adopt commands sent. -/
def execRestoreSummary (s : State) : Result :=
  if s.stageDue .summary then
    let counted :=
      { s.setRu { s.ru with
          commitSerial := s.ru.highestCommit, summary := some s.ru.tally, stage := .adoption } with
        store := { s.store with openSerial := s.highestSerial } }
    .next ((counted.raise .retention (.device .restored)).sendAdoption)
  else .next s

/-- Whether every controller has adopted (R145). -/
def State.allAdopted (s : State) : Bool :=
  channels.all fun n => !s.sc[n].adopt && s.sc[n].state != .adopting

/-- The power state that restore ends in (R145). -/
def endPower (pfw : Bool) : Power := if pfw then .holdup else .run

/-- END_OF_RESTORE (R145): the power state becomes RUN or HOLDUP, the recognisers of the quantizers begin from
waiting for deassertion (R100), and the engine takes the head of the queue (R128). -/
def execEndOfRestore (s : State) : Result :=
  if s.stageDue .adoption && s.allAdopted then
    let ended := s.setRu { s.ru with power := endPower s.ru.pfw, stage := .done }.settle
    let armed := { ended with cq := Vector.ofFn fun n => { s.cq[n] with recogniser := .waitDeassert } }
    .next (if s.ru.pfw then armed.raise .retention (.device .powerWarn) else armed)
  else .next s

end Sys2Proof.Machine
end

