-- ==== Sys2Proof/Machine/Tariffs.lean ====
section
/-! DEFINITION. The Tariff Unit: SET_BAND, SET_PRICE, SET_STANDING, READ_TARIFF and COMMIT_TARIFFS (4.1 to
4.5). -/

namespace Sys2Proof.Machine

/-- The Tariff Unit replaced. -/
def State.setTu (s : State) (t : TariffUnit) : State := { s with tu := t }

/-- A bank with one price written (R68). -/
def Bank.withPrice (bank : Bank) (t : Tariff) (band : Band) (price : BitVec 16) : Bank :=
  { bank with prices := bank.prices.set t (bank.prices[t].set band price) }

/-- A bank with one standing charge written (R69). -/
def Bank.withStanding (bank : Bank) (t : Tariff) (charge : BitVec 32) : Bank :=
  { bank with standing := bank.standing.set t charge }

/-- SET_BAND taken by the Tariff Unit (R73). -/
def State.takeBand (s : State) (band : Band) : State :=
  let after := s.setTu { s.tu with band := band }
  let dirtied := if band = s.tu.band then after else after.dirty .tariff .settings
  dirtied.answer .ok [count8 s.tu.band.val, count8 band.val]

/-- SET_PRICE taken by the Tariff Unit (R68). -/
def State.takePrice (s : State) (t : Tariff) (band : Band) (price : BitVec 16) : State :=
  (s.setTu { s.tu with shadow := s.tu.shadow.withPrice t band price }).answer .ok
    (le16 s.tu.shadow.prices[t][band] ++ le16 price)

/-- SET_STANDING taken by the Tariff Unit (R69). -/
def State.takeStanding (s : State) (t : Tariff) (charge : BitVec 32) : State :=
  (s.setTu { s.tu with shadow := s.tu.shadow.withStanding t charge }).answer .ok
    (le32 s.tu.shadow.standing[t] ++ le32 charge)

/-- The payload of READ_TARIFF (R70). -/
def TariffUnit.report (u : TariffUnit) (active : Bool) (t : Tariff) : List Byte :=
  let bank := if active then u.active else u.shadow
  bank.prices[t].toList.flatMap le16 ++ le32 bank.standing[t]
    ++ [count8 u.band.val, yesNo (u.shadow != u.active)]

/-- COMMIT_TARIFFS at the Tariff Unit (R71). -/
def State.takeCommit (s : State) : State :=
  if s.le.walk = .idle then
    ((s.setTu { s.tu with active := s.tu.shadow, shadow := s.tu.shadow }).dirty .tariff .tariff).answer .ok []
  else s.answer .busy []

/-- SET_BAND. -/
def execSetBand (s : State) : Result :=
  match s.claim with
  | some (.setBand band) => .next (s.takeBand band)
  | _ => .next s

/-- SET_PRICE. -/
def execSetPrice (s : State) : Result :=
  match s.claim with
  | some (.setPrice t band price) => .next (s.takePrice t band price)
  | _ => .next s

/-- SET_STANDING. -/
def execSetStanding (s : State) : Result :=
  match s.claim with
  | some (.setStanding t charge) => .next (s.takeStanding t charge)
  | _ => .next s

/-- READ_TARIFF. -/
def execReadTariff (s : State) : Result :=
  match s.claim with
  | some (.readTariff active t) => .next (s.answer .ok (s.tu.report active t))
  | _ => .next s

/-- COMMIT_TARIFFS. -/
def execCommitTariffs (s : State) : Result :=
  match s.claim with
  | some .commitTariffs => .next s.takeCommit
  | _ => .next s

end Sys2Proof.Machine
end

