-- ==== Sys2Proof/Machine/Dispatch.lean ====
section
/-! DEFINITION. The dispatch: one arm for each command, in the order of the opcode table. -/

namespace Sys2Proof.Machine

/-- The effect of a command on everything but the queue of waiting commands. -/
def exec (i : Instr) (s : State) : Host.Outcome State Fault Refusal :=
  match i with
  | .identify => Sys2Proof.Machine.execIdentify s
  | .readDevice owner => Sys2Proof.Machine.execReadDevice owner s
  | .softReset => Sys2Proof.Machine.execSoftReset s
  | .openAccount => Sys2Proof.Machine.execOpenAccount s
  | .lookup => Sys2Proof.Machine.execLookup s
  | .readAccount => Sys2Proof.Machine.execReadAccount s
  | .survey => Sys2Proof.Machine.execSurvey s
  | .close => Sys2Proof.Machine.execClose s
  | .release => Sys2Proof.Machine.execRelease s
  | .rewrite => Sys2Proof.Machine.execRewrite s
  | .discard => Sys2Proof.Machine.execDiscard s
  | .topUp => Sys2Proof.Machine.execTopUp s
  | .adjust => Sys2Proof.Machine.execAdjust s
  | .setLimits => Sys2Proof.Machine.execSetLimits s
  | .setBand => Sys2Proof.Machine.execSetBand s
  | .setPrice => Sys2Proof.Machine.execSetPrice s
  | .setStanding => Sys2Proof.Machine.execSetStanding s
  | .readTariff => Sys2Proof.Machine.execReadTariff s
  | .commitTariffs => Sys2Proof.Machine.execCommitTariffs s
  | .levy => Sys2Proof.Machine.execLevy s
  | .cancelLevy => Sys2Proof.Machine.execCancelLevy s
  | .configureChannel => Sys2Proof.Machine.execConfigureChannel s
  | .readChannel half => Sys2Proof.Machine.execReadChannel half s
  | .billUnbilled => Sys2Proof.Machine.execBillUnbilled s
  | .unbilledCountTake n => Sys2Proof.Machine.execUnbilledCountTake n s
  | .setHold n => Sys2Proof.Machine.execSetHold n s
  | .reconnect => Sys2Proof.Machine.execReconnect s
  | .clearFault => Sys2Proof.Machine.execClearFault s
  | .fetchAttention => Sys2Proof.Machine.execFetchAttention s
  | .ackAttention => Sys2Proof.Machine.execAckAttention s
  | .setAttentionMask => Sys2Proof.Machine.execSetAttentionMask s
  | .requestFrame e => Sys2Proof.Machine.execRequestFrame e s
  | .badTypeFrame e => Sys2Proof.Machine.execBadTypeFrame e s
  | .fetchFrame e => Sys2Proof.Machine.execFetchFrame e s
  | .gapTimerExpiry => Sys2Proof.Machine.execGapTimerExpiry s
  | .requestTake => Sys2Proof.Machine.execRequestTake s
  | .responseQueue => Sys2Proof.Machine.execResponseQueue s
  | .pulseEvent n => Sys2Proof.Machine.execPulseEvent n s
  | .windowTimerExpiry n => Sys2Proof.Machine.execWindowTimerExpiry n s
  | .quantumDebit n => Sys2Proof.Machine.execQuantumDebit n s
  | .debitResult n => Sys2Proof.Machine.execDebitResult n s
  | .notice n => Sys2Proof.Machine.execNotice n s
  | .feedbackEvent n level => Sys2Proof.Machine.execFeedbackEvent n level s
  | .operationTimerExpiry n => Sys2Proof.Machine.execOperationTimerExpiry n s
  | .press n => Sys2Proof.Machine.execPress n s
  | .emergencyEngage n => Sys2Proof.Machine.execEmergencyEngage n s
  | .engageResult n => Sys2Proof.Machine.execEngageResult n s
  | .levyClaim => Sys2Proof.Machine.execLevyClaim s
  | .levyResult => Sys2Proof.Machine.execLevyResult s
  | .causeRaise source => Sys2Proof.Machine.execCauseRaise source s
  | .slotEntryRemoval => Sys2Proof.Machine.execSlotEntryRemoval s
  | .dirtying source => Sys2Proof.Machine.execDirtying source s
  | .commitTake => Sys2Proof.Machine.execCommitTake s
  | .snapshotClaim => Sys2Proof.Machine.execSnapshotClaim s
  | .snapshotPart owner => Sys2Proof.Machine.execSnapshotPart owner s
  | .writeStart => Sys2Proof.Machine.execWriteStart s
  | .writeCompletion found => Sys2Proof.Machine.execWriteCompletion found s
  | .pfwEvent level => Sys2Proof.Machine.execPfwEvent level s
  | .drainComplete => Sys2Proof.Machine.execDrainComplete s
  | .stop block => Sys2Proof.Machine.execStop block s
  | .softResetEffect first => Sys2Proof.Machine.execSoftResetEffect first s
  | .powerOnReset cut first => Sys2Proof.Machine.execPowerOnReset cut first s
  | .pinReset cut first => Sys2Proof.Machine.execPinReset cut first s
  | .classifyCopies => Sys2Proof.Machine.execClassifyCopies s
  | .loadSettingsAndTariff => Sys2Proof.Machine.execLoadSettingsAndTariff s
  | .restoreLoad => Sys2Proof.Machine.execRestoreLoad s
  | .referenceConflicts => Sys2Proof.Machine.execReferenceConflicts s
  | .occupancyConflicts => Sys2Proof.Machine.execOccupancyConflicts s
  | .restorePromotion => Sys2Proof.Machine.execRestorePromotion s
  | .restoreSummary => Sys2Proof.Machine.execRestoreSummary s
  | .adopt n => Sys2Proof.Machine.execAdopt n s
  | .endOfRestore => Sys2Proof.Machine.execEndOfRestore s
  | .pulseRecogniserEdge n level => Sys2Proof.Machine.execPulseRecogniserEdge n level s
  | .buttonRecogniserEdge n level => Sys2Proof.Machine.execButtonRecogniserEdge n level s
  | .emptyFrame e => Sys2Proof.Machine.execEmptyFrame e s
  | .waitDeassertEnd e => Sys2Proof.Machine.execWaitDeassertEnd e s
  | .timedOutFrameEnd e => Sys2Proof.Machine.execTimedOutFrameEnd e s

end Sys2Proof.Machine
end

