-- ==== Sys2Proof/Machine/Schedule.lean ====
section
/-! DEFINITION. What the part does when no command waits.  DESIGN CHOICE (log 4): the next internal step that is
due is taken, in a fixed order, and when none is due the 1 kHz time base advances by one count. -/

namespace Sys2Proof.Machine

/-! ## Internal steps -/

/-- The step by which the Attention Unit takes its oldest message. -/
def State.dueMessage (s : State) : Option Instr :=
  match s.au.inbox with
  | [] => none
  | .raised source _ :: _ => if source.raisesCauses then some (.causeRaise source) else none
  | .removed _ :: _ => some .slotEntryRemoval

/-- The step by which the Retention Unit takes its oldest dirtying. -/
def State.dueDirtying (s : State) : Option Instr :=
  match s.ru.inbox with
  | [] => none
  | (source, _) :: _ => if source.ownsRetained then some (.dirtying source) else none

/-- The owner whose part a tariff or settings snapshot still lacks. -/
def missingPart : Gathering → Option Block
  | .account _ _ => none
  | .tariff none => some .tariff
  | .tariff (some _) => none
  | .settings none _ _ _ => some .store
  | .settings (some _) none _ _ => some .tariff
  | .settings (some _) (some _) configs holds =>
    match channels.find? fun n => configs[n].isNone with
    | some n => some (.quantizer n)
    | none => (channels.find? fun n => holds[n].isNone).map .supply

/-- The step of the commit engine that is due. -/
def State.dueCommit (s : State) : Option Instr :=
  match s.ru.engine with
  | .idle => if s.ru.mayTake then some .commitTake else none
  | .snapshot g =>
    if s.ru.snapshotSlot.isSome then (if s.store.billing.isNone then some .snapshotClaim else none)
    else
      match missingPart g with
      | some owner => if owner = .store ∧ s.store.billing.isSome then none else some (.snapshotPart owner)
      | none => some .writeStart
  | .writing _ => none

/-- The results and notices that wait at channel n. -/
def State.dueAtChannel (s : State) (n : Channel) : Option Instr :=
  if !s.sc[n].notices.isEmpty then some (.notice n)
  else if !s.cq[n].results.isEmpty then some (.debitResult n)
  else if s.sc[n].engage.any fun e => e.answer.isSome then some (.engageResult n)
  else none

/-- The claims of channel n that wait at the Store. -/
def State.dueAtStore (s : State) (n : Channel) : Option Instr :=
  if s.debitDue n then some (.quantumDebit n)
  else if (s.engageDue n).isSome then some (.emergencyEngage n)
  else none

/-- The Store's row for a claim, if the Store takes claims. -/
def State.storeRow (s : State) (i : Instr) : Option Instr := if s.storeTakes then some i else none

/-- The row by which the owner of a claim takes it. -/
def State.dueClaim (s : State) : Claim → Option Instr
  | .identify => some .identify
  | .readDevice => none
  | .softReset => if s.ru.power = .run ∨ s.ru.power = .holdup then some .softReset else none
  | .openAccount _ => s.storeRow .openAccount
  | .lookup _ => s.storeRow .lookup
  | .readAccount _ => s.storeRow .readAccount
  | .survey _ => s.storeRow .survey
  | .close _ _ => s.storeRow .close
  | .release _ => s.storeRow .release
  | .rewrite _ => s.storeRow .rewrite
  | .discard _ => s.storeRow .discard
  | .topUp _ => s.storeRow .topUp
  | .adjust _ => s.storeRow .adjust
  | .setLimits _ => s.storeRow .setLimits
  | .setBand _ => some .setBand
  | .setPrice _ _ _ => some .setPrice
  | .setStanding _ _ => some .setStanding
  | .readTariff _ _ => some .readTariff
  | .commitTariffs => some .commitTariffs
  | .levy _ => some .levy
  | .cancelLevy => some .cancelLevy
  | .configureChannel _ _ => some .configureChannel
  | .readChannel _ => none
  | .billUnbilled _ _ =>
    match s.store.billing with
    | none => s.storeRow .billUnbilled
    | some b => if b.count.isSome then some .billUnbilled else some (.unbilledCountTake b.channel)
  | .setHold _ _ => none
  | .reconnect _ => some .reconnect
  | .clearFault _ => some .clearFault
  | .fetchAttention => some .fetchAttention
  | .ackAttention _ _ => some .ackAttention
  | .setAttentionMask _ => some .setAttentionMask

/-- The step that the request served waits for. -/
def State.dueRequest (s : State) : Option Instr :=
  match s.re with
  | none => if s.mayTakeRequest then some .requestTake else none
  | some v =>
    match v.phase with
    | .claim c => s.dueClaim c
    | .device retention levy store =>
      if retention.isNone then some (.readDevice .retention)
      else if levy.isNone then some (.readDevice .levy)
      else if store.isNone then s.storeRow (.readDevice .store)
      else none
    | .channel _ quantizer supply =>
      if quantizer.isNone then some (.readChannel .quantizer)
      else if supply.isNone then some (.readChannel .supply)
      else none
    | .hold _ _ flags => (channels.find? fun n => flags[n].isNone).map .setHold
    | .answered _ => some .responseQueue

/-- The levy step that is due. -/
def State.dueLevy (s : State) : Option Instr :=
  if s.le.result.isSome then some .levyResult else if s.levyDue.isSome then some .levyClaim else none

/-- The first block that has not answered the stop and has no dirtying on its way. -/
def State.dueStop (s : State) : Option Instr :=
  match s.ru.stop with
  | none => none
  | some a =>
    let waits (b : Block) (done : Bool) : Bool := !done && !s.ru.awaits b
    if waits .store a.store then some (.stop .store)
    else if waits .tariff a.tariff then some (.stop .tariff)
    else
      match channels.find? fun n => waits (.quantizer n) a.quantizers[n] with
      | some n => some (.stop (.quantizer n))
      | none => (channels.find? fun n => waits (.supply n) a.supplies[n]).map fun n => .stop (.supply n)

/-- What a reset at this moment finds on the inputs: the last sample and the level of CSN. -/
def State.firstSample (s : State) : FirstSample where
  fbk := s.pins.fbk
  pfw := s.pins.pfw
  csn := s.hl.frame != .idle

/-- The step of the drain that is due. -/
def State.dueDrain (s : State) : Option Instr :=
  if s.ru.drained && s.ru.stop.isNone then some .drainComplete
  else if s.ru.softResetDue then some (.softResetEffect s.firstSample)
  else s.dueStop

/-- The step of restore that is due. -/
def State.dueRestore (s : State) : Option Instr :=
  match s.ru.stage with
  | .classify => if s.stageDue .classify then some .classifyCopies else none
  | .settings => if s.stageDue .settings then some .loadSettingsAndTariff else none
  | .accounts _ => if s.loadDue.isSome then some .restoreLoad else none
  | .references => if s.stageDue .references then some .referenceConflicts else none
  | .occupancy => if s.stageDue .occupancy then some .occupancyConflicts else none
  | .promotion => if s.stageDue .promotion then some .restorePromotion else none
  | .summary => if s.stageDue .summary then some .restoreSummary else none
  | .adoption =>
    match channels.find? s.adoptDue with
    | some n => some (.adopt n)
    | none => if s.stageDue .adoption && s.allAdopted then some .endOfRestore else none
  | .done => none

/-- The internal step that is due, if one is. -/
def State.due (s : State) : Option Instr :=
  s.dueMessage <|> s.dueDirtying <|> s.dueCommit <|> channels.findSome? s.dueAtChannel <|> s.dueRequest
    <|> channels.findSome? s.dueAtStore <|> s.dueLevy <|> s.dueRestore <|> s.dueDrain

/-! ## The time base -/

/-- The samples in a row that a filter has seen at the other level, one sample on. -/
def runOn (level sample : Bool) (run : Nat) : Nat := if sample = level then 0 else run + 1

/-- The samples that change the feedback level and the PFW level (R103, R135). -/
def feedbackSamples : Nat := 10
@[inherit_doc feedbackSamples] def pfwSamples : Nat := 5

/-- The times in ms for which a pulse and a press qualify (R87, R112), and the longest time of a write
(R131). -/
def pulseTime : Nat := 1
@[inherit_doc pulseTime] def pressTime : Nat := 40
@[inherit_doc pulseTime] def writeTime : Nat := 3

/-- A recogniser one count on. -/
def Recogniser.tick : Recogniser → Recogniser
  | .qualifying k => .qualifying (k + 1)
  | .waitDeassert => .waitDeassert
  | .waitAssert => .waitAssert

/-- A timer one count on; it is left at 1 for its expiry. -/
def countDown (left : Nat) : Nat := if left ≤ 1 then left else left - 1

/-- A quantizer one count on. -/
def Quantizer.tick (q : Quantizer) : Quantizer :=
  { q with
    recogniser := q.recogniser.tick
    accumulation :=
      match q.accumulation with
      | .idle => .idle
      | .accumulating count left => .accumulating count (countDown left) }

/-- A controller one count on, FBK showing a sample. -/
def Supply.tick (c : Supply) (fbk : Bool) : Supply :=
  { c with
    button := c.button.tick
    timer := c.timer.map countDown
    feedbackRun := runOn c.feedback fbk c.feedbackRun }

/-- The commit engine one count on. -/
def CommitEngine.tick : CommitEngine → CommitEngine
  | .writing w => .writing { w with elapsed := w.elapsed + 1 }
  | .idle => .idle
  | .snapshot g => .snapshot g

/-- An event, if it is due. -/
def dueIf (b : Bool) (i : Instr) : List Instr := if b then [i] else []

/-- Whether a recogniser has qualified for a time, one count on. -/
def Recogniser.qualified (r : Recogniser) (time : Nat) (level : Bool) : Bool :=
  match r with
  | .qualifying k => level && time ≤ k + 1
  | .waitDeassert | .waitAssert => false

/-- Whether a feedback event ends the operation that a controller runs (R107, R108). -/
def Supply.confirmedBy (c : Supply) (level : Bool) : Bool :=
  match c.state with
  | .opening => c.feedback && !level
  | .closing => !c.feedback && level
  | .opened | .armed | .closed | .fault _ | .adopting => false

/-- The events of channel n at a count that shows `p`.  A feedback event stands ahead of an expiry that falls due at the
same count; if it ends the operation the timer is stopped, and that expiry does not happen (R107, R108).  DESIGN CHOICE
(log 4): an expiry of the window stands ahead of a pulse event of the same count, one of the two orders of R89. -/
def State.tickEvents (s : State) (p : Pins) (n : Channel) : List Instr :=
  let q := s.cq[n]
  let c := s.sc[n]
  let pls := setHas p.pls n.val
  let btn := setHas p.btn n.val
  let fbk := setHas p.fbk n.val
  let changes : Bool := feedbackSamples ≤ runOn c.feedback fbk c.feedbackRun
  dueIf changes (.feedbackEvent n fbk)
    ++ dueIf (match q.accumulation with
        | .accumulating _ left => left ≤ 1
        | .idle => false) (.windowTimerExpiry n)
    ++ dueIf (c.timer.any (· ≤ 1) && !(changes && c.confirmedBy fbk)) (.operationTimerExpiry n)
    ++ dueIf (q.recogniser.edge pls != q.recogniser) (.pulseRecogniserEdge n pls)
    ++ dueIf (q.recogniser.qualified pulseTime pls) (.pulseEvent n)
    ++ dueIf (c.button.edge btn != c.button) (.buttonRecogniserEdge n btn)
    ++ dueIf (c.button.qualified pressTime btn) (.press n)

/-- The events of the device at a count that shows `p`. -/
def State.deviceEvents (s : State) (p : Pins) : List Instr :=
  dueIf (pfwSamples ≤ runOn s.ru.pfw p.pfw s.ru.pfwRun) (.pfwEvent p.pfw)
    ++ dueIf (s.hl.gap.any (· ≤ 1)) .gapTimerExpiry
    ++ dueIf (match s.ru.engine with
        | .writing w => writeTime ≤ w.elapsed + 1
        | .idle => false
        | .snapshot _ => false) (.writeCompletion none)

/-- The sample that the next count shows: the first of those to come, or the last one held. -/
def State.nextSample (s : State) : Pins := s.samples.headD s.pins

/-- One count of the 1 kHz time base: the inputs are sampled, filters and timers advance, and the events that fall
due wait in the queue. -/
def State.tick (s : State) : State :=
  let p := s.nextSample
  { s with
    cq := Vector.ofFn fun n => s.cq[n].tick
    sc := Vector.ofFn fun n => s.sc[n].tick (setHas p.fbk n.val)
    ru := { s.ru with pfwRun := runOn s.ru.pfw p.pfw s.ru.pfwRun, engine := s.ru.engine.tick }
    hl := { s.hl with gap := s.hl.gap.map countDown }
    pins := p
    samples := s.samples.tail
    pending := s.deviceEvents p ++ channels.flatMap (s.tickEvents p) }

/-- What the part does when no command waits: the internal step that is due, or one count of the time base. -/
def idleStep (s : State) : Result :=
  match s.due with
  | some i => exec i s
  | none => .next s.tick

end Sys2Proof.Machine
end

