-- ==== Sys2Proof/Safety.lean ====
section
/-! DEFINITION. What counts as a lawful state: the laws that the manual states of every state of the part, each as
a predicate that does not depend on how the state was reached; and the frames that statements about a claim
use. -/

namespace Sys2Proof.Machine

/-! ## Laws -/

/-- The law of the two queues of the link (R168, R171): at most four entries each, and a free place in the response
queue while a request is served (R173). -/
def State.QueueLaw (s : State) : Prop :=
  s.hl.requests.length ≤ 4 ∧ s.hl.responses.length ≤ 4 ∧ (s.re.isSome = true → s.hl.responses.length < 4)

/-- The law of the attention list (R149, R152): each subject once, every entry with one or more causes of its
subject's kind, and ATTN asserted exactly when the list is not empty. -/
def State.AttentionLaw (s : State) : Prop :=
  (s.au.list.map (·.subject)).Nodup
    ∧ (∀ e ∈ s.au.list, e.causes ≠ 0#8 ∧ e.causes &&& undefinedCauses e.subject = 0#8)
    ∧ s.au.attn = !s.au.list.isEmpty

/-- The law of the drive line (R102) at one controller: asserted in CLOSING and CLOSED, deasserted in every other
state but ADOPTING; the operation timer runs exactly in CLOSING and OPENING. -/
def Supply.DriveLaw (c : Supply) : Prop :=
  match c.state with
  | .opened | .armed | .fault _ => c.drive = false ∧ c.timer = none
  | .closing => c.drive = true ∧ c.timer.isSome = true
  | .closed => c.drive = true ∧ c.timer = none
  | .opening => c.drive = false ∧ c.timer.isSome = true
  | .adopting => c.timer = none

/-- The law of the drive line at every controller (R102). -/
def State.DriveLaw (s : State) : Prop := ∀ n : Channel, (s.scAt n).DriveLaw

/-- The law of the commit queue (R126, R127): each item once, and no barred item. -/
def State.CommitLaw (s : State) : Prop :=
  s.ru.queue.Nodup ∧ ∀ x ∈ s.ru.queue, s.ru.isBarred x = false

/-- The law of the integrity words (R11): every record carries the word that its content calls for. -/
def State.IntegrityLaw (s : State) : Prop := ∀ i : Slot, s.intactAt i = true

/-- The conservation law of one record (R45): with SATURATED clear, the balance is the opening balance plus the
credited total less the debited total. -/
def Body.Conserved (b : Body) : Prop :=
  b.saturated = false → b.balance.toInt = b.opening.toInt + b.credited.toNat - b.debited.toNat

/-- The law of the money fields (R43, R45): every account that claims act on keeps the conservation law, with its
balance in bounds. -/
def State.MoneyLaw (s : State) : Prop :=
  ∀ i : Slot, (s.lifeAt i = .waiting ∨ s.lifeAt i = .live ∨ s.lifeAt i = .settled) →
    (s.bodyAt i).Conserved ∧ balMin ≤ (s.bodyAt i).balance.toInt ∧ (s.bodyAt i).balance.toInt ≤ balMax

/-! ## Frames -/

/-- Between `s` and `t` the Account Store has changed the body and word of slot i alone. -/
structure StoreFrame (s t : State) (i : Slot) : Prop where
  others : ∀ j : Slot, j ≠ i → t.slotAt j = s.slotAt j
  life : t.lifeAt i = s.lifeAt i
  generation : (t.slotAt i).generation = (s.slotAt i).generation
  counter : (t.slotAt i).counter = (s.slotAt i).counter
  intact : t.intactAt i = true
  lists : t.store.lists = s.store.lists
  openSerial : t.store.openSerial = s.store.openSerial

/-- Between `s` and `t` nothing outside the Account Store has changed but what a claim hands off (R18): messages
to the Attention Unit, dirtyings, one notice to each controller whose channel's view changed, and what the
originator of the claim receives. -/
structure HandOffFrame (s t : State) : Prop where
  tariffs : t.tu = s.tu
  retention : { t.ru with inbox := s.ru.inbox } = s.ru
  attention : { t.au with inbox := s.au.inbox } = s.au
  notices : ∀ n : Channel,
    (t.scAt n).notices = (s.scAt n).notices ++ (if t.viewOf n = s.viewOf n then [] else [t.viewOf n])
  supplies : ∀ n : Channel,
    { t.scAt n with notices := (s.scAt n).notices, engage := (s.scAt n).engage } = s.scAt n
  link : t.hl = s.hl
  pins : t.pins = s.pins
  samples : t.samples = s.samples
  pending : t.pending = s.pending

/-- The originators of field claims have not changed: quantizers, Levy Engine, and no engage claim. -/
structure FieldFrame (s t : State) : Prop where
  quantizers : t.cq = s.cq
  levy : t.le = s.le
  engages : ∀ n : Channel, (t.scAt n).engage = (s.scAt n).engage

/-- The raise of the cause of a credit state that an account enters, if there is one (R51). -/
def entryMessages (i : Slot) (start found : Byte) : List AttentionMessage :=
  if found = start then []
  else if found = creditCode .low then [.raised .store (.slot i .lowCredit)]
  else if found = creditCode .emergency then [.raised .store (.slot i .emergency)]
  else if found = creditCode .exhausted then [.raised .store (.slot i .exhausted)]
  else []

/-- The request served is answered: its outcome and payload stand in the Request Engine (R176). -/
def State.Answered (t : State) (q : Request) (outcome : OutcomeCode) (payload : List Byte) : Prop :=
  t.re = some { request := q, phase := .answered { outcome := outcome, payload := payload } }

/-- The Request Engine serves `q` and its claim waits at the owner. -/
def State.Serves (s : State) (q : Request) (c : Claim) : Prop := s.re = some { request := q, phase := .claim c }

/-- The state with the request served answered and nothing else changed. -/
def State.answering (s : State) (q : Request) (outcome : OutcomeCode) (payload : List Byte) : State :=
  { s with re := some { request := q, phase := .answered { outcome := outcome, payload := payload } } }

/-- The state with the request served in another phase and nothing else changed. -/
def State.awaiting (s : State) (q : Request) (p : Phase) : State := { s with re := some { request := q, phase := p } }

/-- What the first checks of a request by handle refuse, for the record of slot i (R12 to R16): INTEGRITY for a QUARANTINED
record, WRONG_STATE for a LOST one, each checked first and, where it fails, renewed as R15 says; and INTEGRITY for an
account that fails its check and is quarantined. -/
structure RefusesUnfit (s : State) (q : Request) (i : Slot) (command : Instr) : Prop where
  quarantined :
    s.intactAt i = true → ∀ held, s.lifeAt i = .quarantined held →
      exec command s = .next (s.answering q .integrity [])
  lost : s.intactAt i = true → s.lifeAt i = .lost → exec command s = .next (s.answering q .wrongState [])
  mismatch :
    s.intactAt i = false → (s.lifeAt i = .waiting ∨ s.lifeAt i = .live ∨ s.lifeAt i = .settled) →
      ∃ t held, exec command s = .next t ∧ t.lifeAt i = .quarantined held ∧ t.bodyAt i = s.bodyAt i
        ∧ t.intactAt i = true ∧ (∀ j, j ≠ i → t.slotAt j = s.slotAt j) ∧ t.store.lists = s.store.lists
        ∧ t.au = { s.au with inbox := s.au.inbox ++ [.raised .store (.slot i .quarantined)] }
        ∧ t.Answered q .integrity []
  mismatchQuarantined :
    s.intactAt i = false → ∀ held, s.lifeAt i = .quarantined held →
      ∃ t, exec command s = .next t ∧ t.lifeAt i = .quarantined held ∧ t.bodyAt i = s.bodyAt i
        ∧ t.intactAt i = true ∧ (∀ j, j ≠ i → t.slotAt j = s.slotAt j) ∧ t.store.lists = s.store.lists
        ∧ t.au = { s.au with inbox := s.au.inbox ++ [.raised .store (.slot i .quarantined)] }
        ∧ t.ru = s.ru ∧ t.sc = s.sc ∧ t.Answered q .integrity []
  mismatchLost :
    s.intactAt i = false → s.lifeAt i = .lost →
      ∃ t, exec command s = .next t ∧ t.lifeAt i = .lost ∧ t.bodyAt i = Body.absent
        ∧ (t.slotAt i).generation = (s.slotAt i).generation ∧ t.intactAt i = true
        ∧ (∀ j, j ≠ i → t.slotAt j = s.slotAt j) ∧ t.store.lists = s.store.lists
        ∧ t.au = s.au ∧ t.ru = s.ru ∧ t.sc = s.sc ∧ t.Answered q .wrongState []

/-- The account of slot i stands in at most one succession list and at most once in it, and no list holds another handle
of the slot (R24). -/
def State.ListedOnce (s : State) (i : Slot) : Prop :=
  ∀ (m : Channel) (g : Handle), g ∈ s.listAt m → slotOf g = i →
    g = s.handleAt i ∧ (s.listAt m).Nodup ∧ ∀ m', g ∈ s.listAt m' → m' = m

/-- A REWRITE of the account of slot i that passes the nine checks of R35 and that the Store takes now. -/
structure RewritePasses (s : State) (q : Request) (a : RewriteArgs) (i : Slot) : Prop where
  served : s.Serves q (.rewrite a)
  takes : s.storeTakes = true
  resolved : s.resolve a.handle = some i
  intact : s.IntegrityLaw
  current : a.expected = none ∨ a.expected = some (s.bodyAt i).version
  place :
    (∃ held, s.lifeAt i = .quarantined held)
      ∨ (s.lifeAt i = a.target.life ∧ (s.bodyAt i).channel = count8 a.channel.val)
  unique : ∀ j, j ≠ i → s.lifeAt j ≠ .free → s.lifeAt j ≠ .lost → (s.bodyAt j).reference ≠ a.reference
  vacant : a.target = .live → ∀ j, s.occupant a.channel = some j → j = i
  room : a.target ≠ .settled → a.handle ∈ s.listAt a.channel ∨ (s.listAt a.channel).length < 3
  balance : -2000000000 ≤ (s.bodyAt i).balance.toInt ∧ (s.bodyAt i).balance.toInt ≤ 2000000000
  opening : -100000000 ≤ (s.bodyAt i).computedOpening ∧ (s.bodyAt i).computedOpening ≤ 100000000

end Sys2Proof.Machine
end

