-- ==== Sys2Proof/Laws/State.lean ====
section
/-! SUPPORT. What each update of State changes and what it leaves: one lemma for each field of each update, true by
rfl, and the reading of a slot, list, quantizer or controller after an update. -/

namespace Sys2Proof.Machine

variable (s : State)

@[simp] theorem State.setSlot_tu (i : Slot) (x : SlotState) : (s.setSlot i x).tu = s.tu := rfl
@[simp] theorem State.setSlot_le (i : Slot) (x : SlotState) : (s.setSlot i x).le = s.le := rfl
@[simp] theorem State.setSlot_cq (i : Slot) (x : SlotState) : (s.setSlot i x).cq = s.cq := rfl
@[simp] theorem State.setSlot_sc (i : Slot) (x : SlotState) : (s.setSlot i x).sc = s.sc := rfl
@[simp] theorem State.setSlot_au (i : Slot) (x : SlotState) : (s.setSlot i x).au = s.au := rfl
@[simp] theorem State.setSlot_ru (i : Slot) (x : SlotState) : (s.setSlot i x).ru = s.ru := rfl
@[simp] theorem State.setSlot_hl (i : Slot) (x : SlotState) : (s.setSlot i x).hl = s.hl := rfl
@[simp] theorem State.setSlot_re (i : Slot) (x : SlotState) : (s.setSlot i x).re = s.re := rfl
@[simp] theorem State.setSlot_pins (i : Slot) (x : SlotState) : (s.setSlot i x).pins = s.pins := rfl
@[simp] theorem State.setSlot_samples (i : Slot) (x : SlotState) : (s.setSlot i x).samples = s.samples := rfl
@[simp] theorem State.setSlot_pending (i : Slot) (x : SlotState) : (s.setSlot i x).pending = s.pending := rfl

@[simp] theorem State.putRecord_tu (i : Slot) (x : SlotState) : (s.putRecord i x).tu = s.tu := rfl
@[simp] theorem State.putRecord_le (i : Slot) (x : SlotState) : (s.putRecord i x).le = s.le := rfl
@[simp] theorem State.putRecord_cq (i : Slot) (x : SlotState) : (s.putRecord i x).cq = s.cq := rfl
@[simp] theorem State.putRecord_sc (i : Slot) (x : SlotState) : (s.putRecord i x).sc = s.sc := rfl
@[simp] theorem State.putRecord_au (i : Slot) (x : SlotState) : (s.putRecord i x).au = s.au := rfl
@[simp] theorem State.putRecord_ru (i : Slot) (x : SlotState) : (s.putRecord i x).ru = s.ru := rfl
@[simp] theorem State.putRecord_hl (i : Slot) (x : SlotState) : (s.putRecord i x).hl = s.hl := rfl
@[simp] theorem State.putRecord_re (i : Slot) (x : SlotState) : (s.putRecord i x).re = s.re := rfl
@[simp] theorem State.putRecord_pins (i : Slot) (x : SlotState) : (s.putRecord i x).pins = s.pins := rfl
@[simp] theorem State.putRecord_samples (i : Slot) (x : SlotState) : (s.putRecord i x).samples = s.samples := rfl
@[simp] theorem State.putRecord_pending (i : Slot) (x : SlotState) : (s.putRecord i x).pending = s.pending := rfl

@[simp] theorem State.putBody_tu (i : Slot) (b : Body) : (s.putBody i b).tu = s.tu := rfl
@[simp] theorem State.putBody_le (i : Slot) (b : Body) : (s.putBody i b).le = s.le := rfl
@[simp] theorem State.putBody_cq (i : Slot) (b : Body) : (s.putBody i b).cq = s.cq := rfl
@[simp] theorem State.putBody_sc (i : Slot) (b : Body) : (s.putBody i b).sc = s.sc := rfl
@[simp] theorem State.putBody_au (i : Slot) (b : Body) : (s.putBody i b).au = s.au := rfl
@[simp] theorem State.putBody_ru (i : Slot) (b : Body) : (s.putBody i b).ru = s.ru := rfl
@[simp] theorem State.putBody_hl (i : Slot) (b : Body) : (s.putBody i b).hl = s.hl := rfl
@[simp] theorem State.putBody_re (i : Slot) (b : Body) : (s.putBody i b).re = s.re := rfl
@[simp] theorem State.putBody_pins (i : Slot) (b : Body) : (s.putBody i b).pins = s.pins := rfl
@[simp] theorem State.putBody_samples (i : Slot) (b : Body) : (s.putBody i b).samples = s.samples := rfl
@[simp] theorem State.putBody_pending (i : Slot) (b : Body) : (s.putBody i b).pending = s.pending := rfl

@[simp] theorem State.setList_tu (n : Channel) (hs : List Handle) : (s.setList n hs).tu = s.tu := rfl
@[simp] theorem State.setList_le (n : Channel) (hs : List Handle) : (s.setList n hs).le = s.le := rfl
@[simp] theorem State.setList_cq (n : Channel) (hs : List Handle) : (s.setList n hs).cq = s.cq := rfl
@[simp] theorem State.setList_sc (n : Channel) (hs : List Handle) : (s.setList n hs).sc = s.sc := rfl
@[simp] theorem State.setList_au (n : Channel) (hs : List Handle) : (s.setList n hs).au = s.au := rfl
@[simp] theorem State.setList_ru (n : Channel) (hs : List Handle) : (s.setList n hs).ru = s.ru := rfl
@[simp] theorem State.setList_hl (n : Channel) (hs : List Handle) : (s.setList n hs).hl = s.hl := rfl
@[simp] theorem State.setList_re (n : Channel) (hs : List Handle) : (s.setList n hs).re = s.re := rfl
@[simp] theorem State.setList_pins (n : Channel) (hs : List Handle) : (s.setList n hs).pins = s.pins := rfl
@[simp] theorem State.setList_samples (n : Channel) (hs : List Handle) : (s.setList n hs).samples = s.samples := rfl
@[simp] theorem State.setList_pending (n : Channel) (hs : List Handle) : (s.setList n hs).pending = s.pending := rfl

@[simp] theorem State.setCq_store (n : Channel) (q : Quantizer) : (s.setCq n q).store = s.store := rfl
@[simp] theorem State.setCq_tu (n : Channel) (q : Quantizer) : (s.setCq n q).tu = s.tu := rfl
@[simp] theorem State.setCq_le (n : Channel) (q : Quantizer) : (s.setCq n q).le = s.le := rfl
@[simp] theorem State.setCq_sc (n : Channel) (q : Quantizer) : (s.setCq n q).sc = s.sc := rfl
@[simp] theorem State.setCq_au (n : Channel) (q : Quantizer) : (s.setCq n q).au = s.au := rfl
@[simp] theorem State.setCq_ru (n : Channel) (q : Quantizer) : (s.setCq n q).ru = s.ru := rfl
@[simp] theorem State.setCq_hl (n : Channel) (q : Quantizer) : (s.setCq n q).hl = s.hl := rfl
@[simp] theorem State.setCq_re (n : Channel) (q : Quantizer) : (s.setCq n q).re = s.re := rfl
@[simp] theorem State.setCq_pins (n : Channel) (q : Quantizer) : (s.setCq n q).pins = s.pins := rfl
@[simp] theorem State.setCq_samples (n : Channel) (q : Quantizer) : (s.setCq n q).samples = s.samples := rfl
@[simp] theorem State.setCq_pending (n : Channel) (q : Quantizer) : (s.setCq n q).pending = s.pending := rfl

@[simp] theorem State.setSc_store (n : Channel) (c : Supply) : (s.setSc n c).store = s.store := rfl
@[simp] theorem State.setSc_tu (n : Channel) (c : Supply) : (s.setSc n c).tu = s.tu := rfl
@[simp] theorem State.setSc_le (n : Channel) (c : Supply) : (s.setSc n c).le = s.le := rfl
@[simp] theorem State.setSc_cq (n : Channel) (c : Supply) : (s.setSc n c).cq = s.cq := rfl
@[simp] theorem State.setSc_au (n : Channel) (c : Supply) : (s.setSc n c).au = s.au := rfl
@[simp] theorem State.setSc_ru (n : Channel) (c : Supply) : (s.setSc n c).ru = s.ru := rfl
@[simp] theorem State.setSc_hl (n : Channel) (c : Supply) : (s.setSc n c).hl = s.hl := rfl
@[simp] theorem State.setSc_re (n : Channel) (c : Supply) : (s.setSc n c).re = s.re := rfl
@[simp] theorem State.setSc_pins (n : Channel) (c : Supply) : (s.setSc n c).pins = s.pins := rfl
@[simp] theorem State.setSc_samples (n : Channel) (c : Supply) : (s.setSc n c).samples = s.samples := rfl
@[simp] theorem State.setSc_pending (n : Channel) (c : Supply) : (s.setSc n c).pending = s.pending := rfl

@[simp] theorem State.setRu_store (r : Retention) : (s.setRu r).store = s.store := rfl
@[simp] theorem State.setRu_tu (r : Retention) : (s.setRu r).tu = s.tu := rfl
@[simp] theorem State.setRu_le (r : Retention) : (s.setRu r).le = s.le := rfl
@[simp] theorem State.setRu_cq (r : Retention) : (s.setRu r).cq = s.cq := rfl
@[simp] theorem State.setRu_sc (r : Retention) : (s.setRu r).sc = s.sc := rfl
@[simp] theorem State.setRu_au (r : Retention) : (s.setRu r).au = s.au := rfl
@[simp] theorem State.setRu_hl (r : Retention) : (s.setRu r).hl = s.hl := rfl
@[simp] theorem State.setRu_re (r : Retention) : (s.setRu r).re = s.re := rfl
@[simp] theorem State.setRu_pins (r : Retention) : (s.setRu r).pins = s.pins := rfl
@[simp] theorem State.setRu_samples (r : Retention) : (s.setRu r).samples = s.samples := rfl
@[simp] theorem State.setRu_pending (r : Retention) : (s.setRu r).pending = s.pending := rfl

@[simp] theorem State.setAu_store (a : Attention) : (s.setAu a).store = s.store := rfl
@[simp] theorem State.setAu_tu (a : Attention) : (s.setAu a).tu = s.tu := rfl
@[simp] theorem State.setAu_le (a : Attention) : (s.setAu a).le = s.le := rfl
@[simp] theorem State.setAu_cq (a : Attention) : (s.setAu a).cq = s.cq := rfl
@[simp] theorem State.setAu_sc (a : Attention) : (s.setAu a).sc = s.sc := rfl
@[simp] theorem State.setAu_ru (a : Attention) : (s.setAu a).ru = s.ru := rfl
@[simp] theorem State.setAu_hl (a : Attention) : (s.setAu a).hl = s.hl := rfl
@[simp] theorem State.setAu_re (a : Attention) : (s.setAu a).re = s.re := rfl
@[simp] theorem State.setAu_pins (a : Attention) : (s.setAu a).pins = s.pins := rfl
@[simp] theorem State.setAu_samples (a : Attention) : (s.setAu a).samples = s.samples := rfl
@[simp] theorem State.setAu_pending (a : Attention) : (s.setAu a).pending = s.pending := rfl

@[simp] theorem State.setHl_store (l : Link) : (s.setHl l).store = s.store := rfl
@[simp] theorem State.setHl_tu (l : Link) : (s.setHl l).tu = s.tu := rfl
@[simp] theorem State.setHl_le (l : Link) : (s.setHl l).le = s.le := rfl
@[simp] theorem State.setHl_cq (l : Link) : (s.setHl l).cq = s.cq := rfl
@[simp] theorem State.setHl_sc (l : Link) : (s.setHl l).sc = s.sc := rfl
@[simp] theorem State.setHl_au (l : Link) : (s.setHl l).au = s.au := rfl
@[simp] theorem State.setHl_ru (l : Link) : (s.setHl l).ru = s.ru := rfl
@[simp] theorem State.setHl_re (l : Link) : (s.setHl l).re = s.re := rfl
@[simp] theorem State.setHl_pins (l : Link) : (s.setHl l).pins = s.pins := rfl
@[simp] theorem State.setHl_samples (l : Link) : (s.setHl l).samples = s.samples := rfl
@[simp] theorem State.setHl_pending (l : Link) : (s.setHl l).pending = s.pending := rfl

@[simp] theorem State.setTu_store (u : TariffUnit) : (s.setTu u).store = s.store := rfl
@[simp] theorem State.setTu_le (u : TariffUnit) : (s.setTu u).le = s.le := rfl
@[simp] theorem State.setTu_cq (u : TariffUnit) : (s.setTu u).cq = s.cq := rfl
@[simp] theorem State.setTu_sc (u : TariffUnit) : (s.setTu u).sc = s.sc := rfl
@[simp] theorem State.setTu_au (u : TariffUnit) : (s.setTu u).au = s.au := rfl
@[simp] theorem State.setTu_ru (u : TariffUnit) : (s.setTu u).ru = s.ru := rfl
@[simp] theorem State.setTu_hl (u : TariffUnit) : (s.setTu u).hl = s.hl := rfl
@[simp] theorem State.setTu_re (u : TariffUnit) : (s.setTu u).re = s.re := rfl
@[simp] theorem State.setTu_pins (u : TariffUnit) : (s.setTu u).pins = s.pins := rfl
@[simp] theorem State.setTu_samples (u : TariffUnit) : (s.setTu u).samples = s.samples := rfl
@[simp] theorem State.setTu_pending (u : TariffUnit) : (s.setTu u).pending = s.pending := rfl

@[simp] theorem State.setLe_store (e : LevyEngine) : (s.setLe e).store = s.store := rfl
@[simp] theorem State.setLe_tu (e : LevyEngine) : (s.setLe e).tu = s.tu := rfl
@[simp] theorem State.setLe_cq (e : LevyEngine) : (s.setLe e).cq = s.cq := rfl
@[simp] theorem State.setLe_sc (e : LevyEngine) : (s.setLe e).sc = s.sc := rfl
@[simp] theorem State.setLe_au (e : LevyEngine) : (s.setLe e).au = s.au := rfl
@[simp] theorem State.setLe_ru (e : LevyEngine) : (s.setLe e).ru = s.ru := rfl
@[simp] theorem State.setLe_hl (e : LevyEngine) : (s.setLe e).hl = s.hl := rfl
@[simp] theorem State.setLe_re (e : LevyEngine) : (s.setLe e).re = s.re := rfl
@[simp] theorem State.setLe_pins (e : LevyEngine) : (s.setLe e).pins = s.pins := rfl
@[simp] theorem State.setLe_samples (e : LevyEngine) : (s.setLe e).samples = s.samples := rfl
@[simp] theorem State.setLe_pending (e : LevyEngine) : (s.setLe e).pending = s.pending := rfl

@[simp] theorem State.raise_store (b : Block) (r : Raise) : (s.raise b r).store = s.store := rfl
@[simp] theorem State.raise_tu (b : Block) (r : Raise) : (s.raise b r).tu = s.tu := rfl
@[simp] theorem State.raise_le (b : Block) (r : Raise) : (s.raise b r).le = s.le := rfl
@[simp] theorem State.raise_cq (b : Block) (r : Raise) : (s.raise b r).cq = s.cq := rfl
@[simp] theorem State.raise_sc (b : Block) (r : Raise) : (s.raise b r).sc = s.sc := rfl
@[simp] theorem State.raise_ru (b : Block) (r : Raise) : (s.raise b r).ru = s.ru := rfl
@[simp] theorem State.raise_hl (b : Block) (r : Raise) : (s.raise b r).hl = s.hl := rfl
@[simp] theorem State.raise_re (b : Block) (r : Raise) : (s.raise b r).re = s.re := rfl
@[simp] theorem State.raise_pins (b : Block) (r : Raise) : (s.raise b r).pins = s.pins := rfl
@[simp] theorem State.raise_samples (b : Block) (r : Raise) : (s.raise b r).samples = s.samples := rfl
@[simp] theorem State.raise_pending (b : Block) (r : Raise) : (s.raise b r).pending = s.pending := rfl

@[simp] theorem State.removeEntry_store (i : Slot) : (s.removeEntry i).store = s.store := rfl
@[simp] theorem State.removeEntry_tu (i : Slot) : (s.removeEntry i).tu = s.tu := rfl
@[simp] theorem State.removeEntry_le (i : Slot) : (s.removeEntry i).le = s.le := rfl
@[simp] theorem State.removeEntry_cq (i : Slot) : (s.removeEntry i).cq = s.cq := rfl
@[simp] theorem State.removeEntry_sc (i : Slot) : (s.removeEntry i).sc = s.sc := rfl
@[simp] theorem State.removeEntry_ru (i : Slot) : (s.removeEntry i).ru = s.ru := rfl
@[simp] theorem State.removeEntry_hl (i : Slot) : (s.removeEntry i).hl = s.hl := rfl
@[simp] theorem State.removeEntry_re (i : Slot) : (s.removeEntry i).re = s.re := rfl
@[simp] theorem State.removeEntry_pins (i : Slot) : (s.removeEntry i).pins = s.pins := rfl
@[simp] theorem State.removeEntry_samples (i : Slot) : (s.removeEntry i).samples = s.samples := rfl
@[simp] theorem State.removeEntry_pending (i : Slot) : (s.removeEntry i).pending = s.pending := rfl

@[simp] theorem State.dirty_store (b : Block) (x : Item) : (s.dirty b x).store = s.store := rfl
@[simp] theorem State.dirty_tu (b : Block) (x : Item) : (s.dirty b x).tu = s.tu := rfl
@[simp] theorem State.dirty_le (b : Block) (x : Item) : (s.dirty b x).le = s.le := rfl
@[simp] theorem State.dirty_cq (b : Block) (x : Item) : (s.dirty b x).cq = s.cq := rfl
@[simp] theorem State.dirty_sc (b : Block) (x : Item) : (s.dirty b x).sc = s.sc := rfl
@[simp] theorem State.dirty_au (b : Block) (x : Item) : (s.dirty b x).au = s.au := rfl
@[simp] theorem State.dirty_hl (b : Block) (x : Item) : (s.dirty b x).hl = s.hl := rfl
@[simp] theorem State.dirty_re (b : Block) (x : Item) : (s.dirty b x).re = s.re := rfl
@[simp] theorem State.dirty_pins (b : Block) (x : Item) : (s.dirty b x).pins = s.pins := rfl
@[simp] theorem State.dirty_samples (b : Block) (x : Item) : (s.dirty b x).samples = s.samples := rfl
@[simp] theorem State.dirty_pending (b : Block) (x : Item) : (s.dirty b x).pending = s.pending := rfl

@[simp] theorem State.raiseSlot_store (i : Slot) (c : SlotCause) : (s.raiseSlot i c).store = s.store := rfl
@[simp] theorem State.raiseSlot_tu (i : Slot) (c : SlotCause) : (s.raiseSlot i c).tu = s.tu := rfl
@[simp] theorem State.raiseSlot_le (i : Slot) (c : SlotCause) : (s.raiseSlot i c).le = s.le := rfl
@[simp] theorem State.raiseSlot_cq (i : Slot) (c : SlotCause) : (s.raiseSlot i c).cq = s.cq := rfl
@[simp] theorem State.raiseSlot_sc (i : Slot) (c : SlotCause) : (s.raiseSlot i c).sc = s.sc := rfl
@[simp] theorem State.raiseSlot_ru (i : Slot) (c : SlotCause) : (s.raiseSlot i c).ru = s.ru := rfl
@[simp] theorem State.raiseSlot_hl (i : Slot) (c : SlotCause) : (s.raiseSlot i c).hl = s.hl := rfl
@[simp] theorem State.raiseSlot_re (i : Slot) (c : SlotCause) : (s.raiseSlot i c).re = s.re := rfl
@[simp] theorem State.raiseSlot_pins (i : Slot) (c : SlotCause) : (s.raiseSlot i c).pins = s.pins := rfl
@[simp] theorem State.raiseSlot_samples (i : Slot) (c : SlotCause) : (s.raiseSlot i c).samples = s.samples := rfl
@[simp] theorem State.raiseSlot_pending (i : Slot) (c : SlotCause) : (s.raiseSlot i c).pending = s.pending := rfl

@[simp] theorem State.dirtyAccount_store (i : Slot) : (s.dirtyAccount i).store = s.store := rfl
@[simp] theorem State.dirtyAccount_tu (i : Slot) : (s.dirtyAccount i).tu = s.tu := rfl
@[simp] theorem State.dirtyAccount_le (i : Slot) : (s.dirtyAccount i).le = s.le := rfl
@[simp] theorem State.dirtyAccount_cq (i : Slot) : (s.dirtyAccount i).cq = s.cq := rfl
@[simp] theorem State.dirtyAccount_sc (i : Slot) : (s.dirtyAccount i).sc = s.sc := rfl
@[simp] theorem State.dirtyAccount_au (i : Slot) : (s.dirtyAccount i).au = s.au := rfl
@[simp] theorem State.dirtyAccount_hl (i : Slot) : (s.dirtyAccount i).hl = s.hl := rfl
@[simp] theorem State.dirtyAccount_re (i : Slot) : (s.dirtyAccount i).re = s.re := rfl
@[simp] theorem State.dirtyAccount_pins (i : Slot) : (s.dirtyAccount i).pins = s.pins := rfl
@[simp] theorem State.dirtyAccount_samples (i : Slot) : (s.dirtyAccount i).samples = s.samples := rfl
@[simp] theorem State.dirtyAccount_pending (i : Slot) : (s.dirtyAccount i).pending = s.pending := rfl

@[simp] theorem State.notify_store (n : Channel) : (s.notify n).store = s.store := rfl
@[simp] theorem State.notify_tu (n : Channel) : (s.notify n).tu = s.tu := rfl
@[simp] theorem State.notify_le (n : Channel) : (s.notify n).le = s.le := rfl
@[simp] theorem State.notify_cq (n : Channel) : (s.notify n).cq = s.cq := rfl
@[simp] theorem State.notify_au (n : Channel) : (s.notify n).au = s.au := rfl
@[simp] theorem State.notify_ru (n : Channel) : (s.notify n).ru = s.ru := rfl
@[simp] theorem State.notify_hl (n : Channel) : (s.notify n).hl = s.hl := rfl
@[simp] theorem State.notify_re (n : Channel) : (s.notify n).re = s.re := rfl
@[simp] theorem State.notify_pins (n : Channel) : (s.notify n).pins = s.pins := rfl
@[simp] theorem State.notify_samples (n : Channel) : (s.notify n).samples = s.samples := rfl
@[simp] theorem State.notify_pending (n : Channel) : (s.notify n).pending = s.pending := rfl

@[simp] theorem State.setPhase_store (p : Phase) : (s.setPhase p).store = s.store := rfl
@[simp] theorem State.setPhase_tu (p : Phase) : (s.setPhase p).tu = s.tu := rfl
@[simp] theorem State.setPhase_le (p : Phase) : (s.setPhase p).le = s.le := rfl
@[simp] theorem State.setPhase_cq (p : Phase) : (s.setPhase p).cq = s.cq := rfl
@[simp] theorem State.setPhase_sc (p : Phase) : (s.setPhase p).sc = s.sc := rfl
@[simp] theorem State.setPhase_au (p : Phase) : (s.setPhase p).au = s.au := rfl
@[simp] theorem State.setPhase_ru (p : Phase) : (s.setPhase p).ru = s.ru := rfl
@[simp] theorem State.setPhase_hl (p : Phase) : (s.setPhase p).hl = s.hl := rfl
@[simp] theorem State.setPhase_pins (p : Phase) : (s.setPhase p).pins = s.pins := rfl
@[simp] theorem State.setPhase_samples (p : Phase) : (s.setPhase p).samples = s.samples := rfl
@[simp] theorem State.setPhase_pending (p : Phase) : (s.setPhase p).pending = s.pending := rfl

@[simp] theorem State.answer_store (o : OutcomeCode) (p : List Byte) : (s.answer o p).store = s.store := rfl
@[simp] theorem State.answer_tu (o : OutcomeCode) (p : List Byte) : (s.answer o p).tu = s.tu := rfl
@[simp] theorem State.answer_le (o : OutcomeCode) (p : List Byte) : (s.answer o p).le = s.le := rfl
@[simp] theorem State.answer_cq (o : OutcomeCode) (p : List Byte) : (s.answer o p).cq = s.cq := rfl
@[simp] theorem State.answer_sc (o : OutcomeCode) (p : List Byte) : (s.answer o p).sc = s.sc := rfl
@[simp] theorem State.answer_au (o : OutcomeCode) (p : List Byte) : (s.answer o p).au = s.au := rfl
@[simp] theorem State.answer_ru (o : OutcomeCode) (p : List Byte) : (s.answer o p).ru = s.ru := rfl
@[simp] theorem State.answer_hl (o : OutcomeCode) (p : List Byte) : (s.answer o p).hl = s.hl := rfl
@[simp] theorem State.answer_pins (o : OutcomeCode) (p : List Byte) : (s.answer o p).pins = s.pins := rfl
@[simp] theorem State.answer_samples (o : OutcomeCode) (p : List Byte) : (s.answer o p).samples = s.samples := rfl
@[simp] theorem State.answer_pending (o : OutcomeCode) (p : List Byte) : (s.answer o p).pending = s.pending := rfl

@[simp] theorem State.setStage_store (g : RestoreStage) : (s.setStage g).store = s.store := rfl
@[simp] theorem State.setStage_tu (g : RestoreStage) : (s.setStage g).tu = s.tu := rfl
@[simp] theorem State.setStage_le (g : RestoreStage) : (s.setStage g).le = s.le := rfl
@[simp] theorem State.setStage_cq (g : RestoreStage) : (s.setStage g).cq = s.cq := rfl
@[simp] theorem State.setStage_sc (g : RestoreStage) : (s.setStage g).sc = s.sc := rfl
@[simp] theorem State.setStage_au (g : RestoreStage) : (s.setStage g).au = s.au := rfl
@[simp] theorem State.setStage_hl (g : RestoreStage) : (s.setStage g).hl = s.hl := rfl
@[simp] theorem State.setStage_re (g : RestoreStage) : (s.setStage g).re = s.re := rfl
@[simp] theorem State.setStage_pins (g : RestoreStage) : (s.setStage g).pins = s.pins := rfl
@[simp] theorem State.setStage_samples (g : RestoreStage) : (s.setStage g).samples = s.samples := rfl
@[simp] theorem State.setStage_pending (g : RestoreStage) : (s.setStage g).pending = s.pending := rfl

@[simp] theorem State.tallied_store (f : RestoreSummary) : (s.tallied f).store = s.store := rfl
@[simp] theorem State.tallied_tu (f : RestoreSummary) : (s.tallied f).tu = s.tu := rfl
@[simp] theorem State.tallied_le (f : RestoreSummary) : (s.tallied f).le = s.le := rfl
@[simp] theorem State.tallied_cq (f : RestoreSummary) : (s.tallied f).cq = s.cq := rfl
@[simp] theorem State.tallied_sc (f : RestoreSummary) : (s.tallied f).sc = s.sc := rfl
@[simp] theorem State.tallied_au (f : RestoreSummary) : (s.tallied f).au = s.au := rfl
@[simp] theorem State.tallied_hl (f : RestoreSummary) : (s.tallied f).hl = s.hl := rfl
@[simp] theorem State.tallied_re (f : RestoreSummary) : (s.tallied f).re = s.re := rfl
@[simp] theorem State.tallied_pins (f : RestoreSummary) : (s.tallied f).pins = s.pins := rfl
@[simp] theorem State.tallied_samples (f : RestoreSummary) : (s.tallied f).samples = s.samples := rfl
@[simp] theorem State.tallied_pending (f : RestoreSummary) : (s.tallied f).pending = s.pending := rfl

@[simp] theorem State.setFeedback_store (n : Channel) (l : Bool) : (s.setFeedback n l).store = s.store := rfl
@[simp] theorem State.setFeedback_tu (n : Channel) (l : Bool) : (s.setFeedback n l).tu = s.tu := rfl
@[simp] theorem State.setFeedback_le (n : Channel) (l : Bool) : (s.setFeedback n l).le = s.le := rfl
@[simp] theorem State.setFeedback_cq (n : Channel) (l : Bool) : (s.setFeedback n l).cq = s.cq := rfl
@[simp] theorem State.setFeedback_au (n : Channel) (l : Bool) : (s.setFeedback n l).au = s.au := rfl
@[simp] theorem State.setFeedback_ru (n : Channel) (l : Bool) : (s.setFeedback n l).ru = s.ru := rfl
@[simp] theorem State.setFeedback_hl (n : Channel) (l : Bool) : (s.setFeedback n l).hl = s.hl := rfl
@[simp] theorem State.setFeedback_re (n : Channel) (l : Bool) : (s.setFeedback n l).re = s.re := rfl
@[simp] theorem State.setFeedback_samples (n : Channel) (l : Bool) : (s.setFeedback n l).samples = s.samples := rfl
@[simp] theorem State.setFeedback_pending (n : Channel) (l : Bool) : (s.setFeedback n l).pending = s.pending := rfl

@[simp] theorem State.setPfw_store (l : Bool) (p : Power) : (s.setPfw l p).store = s.store := rfl
@[simp] theorem State.setPfw_tu (l : Bool) (p : Power) : (s.setPfw l p).tu = s.tu := rfl
@[simp] theorem State.setPfw_le (l : Bool) (p : Power) : (s.setPfw l p).le = s.le := rfl
@[simp] theorem State.setPfw_cq (l : Bool) (p : Power) : (s.setPfw l p).cq = s.cq := rfl
@[simp] theorem State.setPfw_sc (l : Bool) (p : Power) : (s.setPfw l p).sc = s.sc := rfl
@[simp] theorem State.setPfw_au (l : Bool) (p : Power) : (s.setPfw l p).au = s.au := rfl
@[simp] theorem State.setPfw_hl (l : Bool) (p : Power) : (s.setPfw l p).hl = s.hl := rfl
@[simp] theorem State.setPfw_re (l : Bool) (p : Power) : (s.setPfw l p).re = s.re := rfl
@[simp] theorem State.setPfw_samples (l : Bool) (p : Power) : (s.setPfw l p).samples = s.samples := rfl
@[simp] theorem State.setPfw_pending (l : Bool) (p : Power) : (s.setPfw l p).pending = s.pending := rfl

@[simp] theorem State.setRu_ru (r : Retention) : (s.setRu r).ru = r := rfl
@[simp] theorem State.setAu_au (a : Attention) : (s.setAu a).au = a := rfl
@[simp] theorem State.setHl_hl (l : Link) : (s.setHl l).hl = l := rfl
@[simp] theorem State.setTu_tu (u : TariffUnit) : (s.setTu u).tu = u := rfl
@[simp] theorem State.setLe_le (e : LevyEngine) : (s.setLe e).le = e := rfl
@[simp] theorem State.raise_au (b : Block) (r : Raise) :
    (s.raise b r).au = { s.au with inbox := s.au.inbox ++ [.raised b r] } := rfl
@[simp] theorem State.removeEntry_au (i : Slot) :
    (s.removeEntry i).au = { s.au with inbox := s.au.inbox ++ [.removed i] } := rfl
@[simp] theorem State.dirty_ru (b : Block) (x : Item) :
    (s.dirty b x).ru = { s.ru with inbox := s.ru.inbox ++ [(b, x)] } := rfl
@[simp] theorem State.raiseSlot_au (i : Slot) (c : SlotCause) :
    (s.raiseSlot i c).au = { s.au with inbox := s.au.inbox ++ [.raised .store (.slot i c)] } := rfl
@[simp] theorem State.dirtyAccount_ru (i : Slot) :
    (s.dirtyAccount i).ru = { s.ru with inbox := s.ru.inbox ++ [(.store, .account i)] } := rfl
@[simp] theorem State.setPhase_re (p : Phase) :
    (s.setPhase p).re = s.re.map fun v => { v with phase := p } := rfl
@[simp] theorem State.answer_re (o : OutcomeCode) (p : List Byte) :
    (s.answer o p).re = s.re.map fun v => { v with phase := .answered { outcome := o, payload := p } } := rfl
@[simp] theorem State.setStage_ru (g : RestoreStage) : (s.setStage g).ru = { s.ru with stage := g } := rfl
@[simp] theorem State.tallied_ru (f : RestoreSummary) : (s.tallied f).ru = { s.ru with tally := f } := rfl

@[simp] theorem Body.promoted_emergency (b : Body) : b.promoted.emergency = b.emergency := rfl
@[simp] theorem Body.promoted_balance (b : Body) : b.promoted.balance = b.balance := rfl
@[simp] theorem Body.promoted_version (b : Body) : b.promoted.version = b.version := rfl
@[simp] theorem Body.promoted_credit (b : Body) : b.promoted.credit = (b.evaluated false).credit := rfl
@[simp] theorem Link.shifted_shift (l : Link) (b : Byte) : (l.shifted b).shift = [] := rfl
@[simp] theorem Link.shifted_sent (l : Link) (b : Byte) : (l.shifted b).sent = l.sent ++ [l.out] := rfl
@[simp] theorem Link.shifted_out (l : Link) (b : Byte) : (l.shifted b).out = b := rfl
@[simp] theorem Link.shifted_frame (l : Link) (b : Byte) : (l.shifted b).frame = l.frame := rfl
@[simp] theorem Link.shifted_requests (l : Link) (b : Byte) : (l.shifted b).requests = l.requests := rfl
@[simp] theorem Link.shifted_responses (l : Link) (b : Byte) : (l.shifted b).responses = l.responses := rfl
@[simp] theorem Link.counted_sent (l : Link) (b : Byte) : (l.counted b).sent = l.sent ++ [l.out] := rfl
@[simp] theorem Link.counted_out (l : Link) (b : Byte) : (l.counted b).out = b := rfl
@[simp] theorem Link.counted_count (l : Link) (b : Byte) : (l.counted b).count = l.count + 1 := rfl
@[simp] theorem Link.counted_requests (l : Link) (b : Byte) : (l.counted b).requests = l.requests := rfl
@[simp] theorem Link.counted_responses (l : Link) (b : Byte) : (l.counted b).responses = l.responses := rfl

/-! ## Places after an update -/

theorem State.setSlot_slotAt (i j : Slot) (x : SlotState) :
    (s.setSlot i x).slotAt j = if i = j then x else s.slotAt j := by
  simp [State.setSlot, State.slotAt, Vector.getElem_set, Fin.ext_iff]

@[simp] theorem State.setSlot_slotAt_self (i : Slot) (x : SlotState) : (s.setSlot i x).slotAt i = x := by
  simp [State.setSlot_slotAt]

theorem State.putRecord_slotAt (i j : Slot) (x : SlotState) :
    (s.putRecord i x).slotAt j = if i = j then x.sealed i else s.slotAt j :=
  s.setSlot_slotAt i j (x.sealed i)

@[simp] theorem State.setSlot_lists (i : Slot) (x : SlotState) : (s.setSlot i x).store.lists = s.store.lists := rfl
@[simp] theorem State.setSlot_openSerial (i : Slot) (x : SlotState) :
    (s.setSlot i x).store.openSerial = s.store.openSerial := rfl
@[simp] theorem State.setSlot_billing (i : Slot) (x : SlotState) :
    (s.setSlot i x).store.billing = s.store.billing := rfl
@[simp] theorem State.putRecord_lists (i : Slot) (x : SlotState) :
    (s.putRecord i x).store.lists = s.store.lists := rfl
@[simp] theorem State.putRecord_openSerial (i : Slot) (x : SlotState) :
    (s.putRecord i x).store.openSerial = s.store.openSerial := rfl
@[simp] theorem State.putRecord_billing (i : Slot) (x : SlotState) :
    (s.putRecord i x).store.billing = s.store.billing := rfl
@[simp] theorem State.setList_slots (n : Channel) (hs : List Handle) :
    (s.setList n hs).store.slots = s.store.slots := rfl
@[simp] theorem State.setList_openSerial (n : Channel) (hs : List Handle) :
    (s.setList n hs).store.openSerial = s.store.openSerial := rfl
@[simp] theorem State.setList_billing (n : Channel) (hs : List Handle) :
    (s.setList n hs).store.billing = s.store.billing := rfl
@[simp] theorem State.setList_slotAt (n : Channel) (hs : List Handle) (i : Slot) :
    (s.setList n hs).slotAt i = s.slotAt i := rfl

theorem State.setList_listAt (n m : Channel) (hs : List Handle) :
    (s.setList n hs).listAt m = if n = m then hs else s.listAt m := by
  simp [State.setList, State.listAt, Vector.getElem_set, Fin.ext_iff]

theorem State.setCq_cqAt (n m : Channel) (q : Quantizer) :
    (s.setCq n q).cqAt m = if n = m then q else s.cqAt m := by
  simp [State.setCq, State.cqAt, Vector.getElem_set, Fin.ext_iff]

@[simp] theorem State.setCq_cqAt_self (n : Channel) (q : Quantizer) : (s.setCq n q).cqAt n = q := by
  simp [State.setCq_cqAt]

theorem State.setSc_scAt (n m : Channel) (c : Supply) :
    (s.setSc n c).scAt m = if n = m then c else s.scAt m := by
  simp [State.setSc, State.scAt, Vector.getElem_set, Fin.ext_iff]

@[simp] theorem State.setSc_scAt_self (n : Channel) (c : Supply) : (s.setSc n c).scAt n = c := by
  simp [State.setSc_scAt]

/-! ## The Store's own part decides what it sees -/

/-- Two states with the same Store hold the same in every slot. -/
theorem slotAt_congr {s t : State} (h : t.store = s.store) (i : Slot) : t.slotAt i = s.slotAt i := by
  cases s; cases t; cases h; rfl

theorem lifeAt_congr {s t : State} (h : t.store = s.store) (i : Slot) : t.lifeAt i = s.lifeAt i := by
  cases s; cases t; cases h; rfl

theorem bodyAt_congr {s t : State} (h : t.store = s.store) (i : Slot) : t.bodyAt i = s.bodyAt i := by
  cases s; cases t; cases h; rfl

theorem intactAt_congr {s t : State} (h : t.store = s.store) (i : Slot) : t.intactAt i = s.intactAt i := by
  cases s; cases t; cases h; rfl

theorem handleAt_congr {s t : State} (h : t.store = s.store) (i : Slot) : t.handleAt i = s.handleAt i := by
  cases s; cases t; cases h; rfl

theorem occupant_congr {s t : State} (h : t.store = s.store) (n : Channel) : t.occupant n = s.occupant n := by
  cases s; cases t; cases h; rfl

/-- Two states with the same Store show the same view of every channel. -/
theorem viewOf_congr {s t : State} (h : t.store = s.store) (n : Channel) : t.viewOf n = s.viewOf n := by
  cases s; cases t; cases h; rfl

end Sys2Proof.Machine
end

