-- ==== Sys2Proof/Laws/Store.lean ====
section
/-! SUPPORT. What the shared operations of the Account Store can do: the parts of State that each leaves unchanged,
and that each leaves every record with a word that matches its content (R11). -/

namespace Sys2Proof.Machine

/-! ## Integrity words -/

@[simp] theorem SlotState.sealed_intact (x : SlotState) (i : Slot) : (x.sealed i).intact i = true := by
  simp [SlotState.sealed, SlotState.intact, wordOf, covered]

@[simp] theorem SlotState.sealed_life (x : SlotState) (i : Slot) : (x.sealed i).life = x.life := rfl
@[simp] theorem SlotState.sealed_body (x : SlotState) (i : Slot) : (x.sealed i).body = x.body := rfl
@[simp] theorem SlotState.sealed_generation (x : SlotState) (i : Slot) :
    (x.sealed i).generation = x.generation := rfl
@[simp] theorem SlotState.sealed_counter (x : SlotState) (i : Slot) : (x.sealed i).counter = x.counter := rfl
@[simp] theorem freeForm_intact (i : Slot) (c : Generation) : (freeForm i c).intact i = true :=
  SlotState.sealed_intact _ i
@[simp] theorem lostForm_intact (i : Slot) (g c : Generation) : (lostForm i g c).intact i = true :=
  SlotState.sealed_intact _ i

/-! ## Hand-offs of an evaluation -/

@[simp] theorem State.raiseEntered_tu (s : State) (i : Slot) (a b : Byte) : (s.raiseEntered i a b).tu = s.tu := by
  unfold State.raiseEntered; repeat' split
  all_goals simp
@[simp] theorem State.raiseEntered_le (s : State) (i : Slot) (a b : Byte) : (s.raiseEntered i a b).le = s.le := by
  unfold State.raiseEntered; repeat' split
  all_goals simp
@[simp] theorem State.raiseEntered_cq (s : State) (i : Slot) (a b : Byte) : (s.raiseEntered i a b).cq = s.cq := by
  unfold State.raiseEntered; repeat' split
  all_goals simp
@[simp] theorem State.raiseEntered_sc (s : State) (i : Slot) (a b : Byte) : (s.raiseEntered i a b).sc = s.sc := by
  unfold State.raiseEntered; repeat' split
  all_goals simp
@[simp] theorem State.raiseEntered_hl (s : State) (i : Slot) (a b : Byte) : (s.raiseEntered i a b).hl = s.hl := by
  unfold State.raiseEntered; repeat' split
  all_goals simp
@[simp] theorem State.raiseEntered_re (s : State) (i : Slot) (a b : Byte) : (s.raiseEntered i a b).re = s.re := by
  unfold State.raiseEntered; repeat' split
  all_goals simp
@[simp] theorem State.raiseEntered_pins (s : State) (i : Slot) (a b : Byte) : (s.raiseEntered i a b).pins = s.pins := by
  unfold State.raiseEntered; repeat' split
  all_goals simp
@[simp] theorem State.raiseEntered_samples (s : State) (i : Slot) (a b : Byte) : (s.raiseEntered i a b).samples = s.samples := by
  unfold State.raiseEntered; repeat' split
  all_goals simp
@[simp] theorem State.raiseEntered_pending (s : State) (i : Slot) (a b : Byte) : (s.raiseEntered i a b).pending = s.pending := by
  unfold State.raiseEntered; repeat' split
  all_goals simp
@[simp] theorem State.raiseEntered_store (s : State) (i : Slot) (a b : Byte) : (s.raiseEntered i a b).store = s.store := by
  unfold State.raiseEntered; repeat' split
  all_goals simp
@[simp] theorem State.raiseEntered_ru (s : State) (i : Slot) (a b : Byte) : (s.raiseEntered i a b).ru = s.ru := by
  unfold State.raiseEntered; repeat' split
  all_goals simp

/-! ## Integrity check and quarantine -/

@[simp] theorem State.quarantine_tu (s : State) (i : Slot) (h : Held) : (s.quarantine i h).tu = s.tu := by
  simp [State.quarantine]
@[simp] theorem State.quarantine_le (s : State) (i : Slot) (h : Held) : (s.quarantine i h).le = s.le := by
  simp [State.quarantine]
@[simp] theorem State.quarantine_cq (s : State) (i : Slot) (h : Held) : (s.quarantine i h).cq = s.cq := by
  simp [State.quarantine]
@[simp] theorem State.quarantine_sc (s : State) (i : Slot) (h : Held) : (s.quarantine i h).sc = s.sc := by
  simp [State.quarantine]
@[simp] theorem State.quarantine_hl (s : State) (i : Slot) (h : Held) : (s.quarantine i h).hl = s.hl := by
  simp [State.quarantine]
@[simp] theorem State.quarantine_re (s : State) (i : Slot) (h : Held) : (s.quarantine i h).re = s.re := by
  simp [State.quarantine]
@[simp] theorem State.quarantine_pins (s : State) (i : Slot) (h : Held) : (s.quarantine i h).pins = s.pins := by
  simp [State.quarantine]
@[simp] theorem State.quarantine_samples (s : State) (i : Slot) (h : Held) : (s.quarantine i h).samples = s.samples := by
  simp [State.quarantine]
@[simp] theorem State.quarantine_pending (s : State) (i : Slot) (h : Held) : (s.quarantine i h).pending = s.pending := by
  simp [State.quarantine]
@[simp] theorem State.quarantine_store_lists (s : State) (i : Slot) (h : Held) : (s.quarantine i h).store.lists = s.store.lists := by
  simp [State.quarantine]
@[simp] theorem State.quarantine_store_openSerial (s : State) (i : Slot) (h : Held) : (s.quarantine i h).store.openSerial = s.store.openSerial := by
  simp [State.quarantine]
@[simp] theorem State.quarantine_store_billing (s : State) (i : Slot) (h : Held) : (s.quarantine i h).store.billing = s.store.billing := by
  simp [State.quarantine]

@[simp] theorem State.check_tu (s : State) (i : Slot) : (s.check i).tu = s.tu := by
  unfold State.check; dsimp only; repeat' split
  all_goals simp
@[simp] theorem State.check_le (s : State) (i : Slot) : (s.check i).le = s.le := by
  unfold State.check; dsimp only; repeat' split
  all_goals simp
@[simp] theorem State.check_cq (s : State) (i : Slot) : (s.check i).cq = s.cq := by
  unfold State.check; dsimp only; repeat' split
  all_goals simp
@[simp] theorem State.check_sc (s : State) (i : Slot) : (s.check i).sc = s.sc := by
  unfold State.check; dsimp only; repeat' split
  all_goals simp
@[simp] theorem State.check_hl (s : State) (i : Slot) : (s.check i).hl = s.hl := by
  unfold State.check; dsimp only; repeat' split
  all_goals simp
@[simp] theorem State.check_re (s : State) (i : Slot) : (s.check i).re = s.re := by
  unfold State.check; dsimp only; repeat' split
  all_goals simp
@[simp] theorem State.check_pins (s : State) (i : Slot) : (s.check i).pins = s.pins := by
  unfold State.check; dsimp only; repeat' split
  all_goals simp
@[simp] theorem State.check_samples (s : State) (i : Slot) : (s.check i).samples = s.samples := by
  unfold State.check; dsimp only; repeat' split
  all_goals simp
@[simp] theorem State.check_pending (s : State) (i : Slot) : (s.check i).pending = s.pending := by
  unfold State.check; dsimp only; repeat' split
  all_goals simp
@[simp] theorem State.check_store_lists (s : State) (i : Slot) : (s.check i).store.lists = s.store.lists := by
  unfold State.check; dsimp only; repeat' split
  all_goals simp
@[simp] theorem State.check_store_openSerial (s : State) (i : Slot) : (s.check i).store.openSerial = s.store.openSerial := by
  unfold State.check; dsimp only; repeat' split
  all_goals simp
@[simp] theorem State.check_store_billing (s : State) (i : Slot) : (s.check i).store.billing = s.store.billing := by
  unfold State.check; dsimp only; repeat' split
  all_goals simp

/-- A record that passes its check is left as it is (R12). -/
theorem State.check_of_intact (s : State) (i : Slot) (h : s.intactAt i = true) : s.check i = s := by
  simp [State.check, State.intactAt] at *
  simp [h]

theorem State.quarantine_store (s : State) (i : Slot) (h : Held) :
    (s.quarantine i h).store = (s.putRecord i { s.slotAt i with life := .quarantined h }).store := rfl

theorem State.quarantine_slotAt (s : State) (i j : Slot) (h : Held) :
    (s.quarantine i h).slotAt j
      = if i = j then SlotState.sealed { s.slotAt i with life := .quarantined h } i else s.slotAt j := by
  rw [slotAt_congr (s.quarantine_store i h), State.putRecord_slotAt]

/-- A check touches no other slot. -/
theorem State.check_other (s : State) (i j : Slot) (h : j ≠ i) : (s.check i).slotAt j = s.slotAt j := by
  have h' : i ≠ j := fun e => h e.symm
  unfold State.check; dsimp only
  split
  · rfl
  · split
    · simp [State.quarantine_slotAt, h']
    · simp [State.quarantine_slotAt, h']
    · simp [State.quarantine_slotAt, h']
    · exact (slotAt_congr (State.raiseSlot_store _ i _) j).trans (by simp [State.putRecord_slotAt, h'])
    · simp [State.setSlot_slotAt, h']
    · simp [State.setSlot_slotAt, h']

/-- After its check every record carries a matching word (R12, R13, R15). -/
theorem State.check_intact (s : State) (i : Slot) : (s.check i).intactAt i = true := by
  unfold State.check; dsimp only; split
  · assumption
  · split
    all_goals simp [State.quarantine, State.putRecord, State.intactAt, State.raiseSlot, State.raise, State.setAu,
      State.setRu, State.setSlot, State.slotAt]

/-- The comparison of records keeps everything but the Store's slots and what quarantines hand off. -/
theorem State.checkCompared_eq_of_intact (s : State) (l : List Slot) (h : ∀ i ∈ l, s.intactAt i = true) :
    s.checkCompared l = s := by
  induction l with
  | nil => rfl
  | cons i rest ih =>
    have hi : s.check i = s := s.check_of_intact i (h i (by simp))
    simp only [State.checkCompared, hi, ite_self]
    exact ih fun j hj => h j (by simp [hj])

/-! ## Comparison, evaluation and charge -/

@[simp] theorem State.checkCompared_tu (s : State) (l : List Slot) : (s.checkCompared l).tu = s.tu := by
  induction l generalizing s with
  | nil => rfl
  | cons i rest ih => simp only [State.checkCompared, ih]; split <;> simp
@[simp] theorem State.checkCompared_le (s : State) (l : List Slot) : (s.checkCompared l).le = s.le := by
  induction l generalizing s with
  | nil => rfl
  | cons i rest ih => simp only [State.checkCompared, ih]; split <;> simp
@[simp] theorem State.checkCompared_cq (s : State) (l : List Slot) : (s.checkCompared l).cq = s.cq := by
  induction l generalizing s with
  | nil => rfl
  | cons i rest ih => simp only [State.checkCompared, ih]; split <;> simp
@[simp] theorem State.checkCompared_sc (s : State) (l : List Slot) : (s.checkCompared l).sc = s.sc := by
  induction l generalizing s with
  | nil => rfl
  | cons i rest ih => simp only [State.checkCompared, ih]; split <;> simp
@[simp] theorem State.checkCompared_hl (s : State) (l : List Slot) : (s.checkCompared l).hl = s.hl := by
  induction l generalizing s with
  | nil => rfl
  | cons i rest ih => simp only [State.checkCompared, ih]; split <;> simp
@[simp] theorem State.checkCompared_re (s : State) (l : List Slot) : (s.checkCompared l).re = s.re := by
  induction l generalizing s with
  | nil => rfl
  | cons i rest ih => simp only [State.checkCompared, ih]; split <;> simp
@[simp] theorem State.checkCompared_pins (s : State) (l : List Slot) : (s.checkCompared l).pins = s.pins := by
  induction l generalizing s with
  | nil => rfl
  | cons i rest ih => simp only [State.checkCompared, ih]; split <;> simp
@[simp] theorem State.checkCompared_samples (s : State) (l : List Slot) : (s.checkCompared l).samples = s.samples := by
  induction l generalizing s with
  | nil => rfl
  | cons i rest ih => simp only [State.checkCompared, ih]; split <;> simp
@[simp] theorem State.checkCompared_pending (s : State) (l : List Slot) : (s.checkCompared l).pending = s.pending := by
  induction l generalizing s with
  | nil => rfl
  | cons i rest ih => simp only [State.checkCompared, ih]; split <;> simp
@[simp] theorem State.checkCompared_store_lists (s : State) (l : List Slot) : (s.checkCompared l).store.lists = s.store.lists := by
  induction l generalizing s with
  | nil => rfl
  | cons i rest ih => simp only [State.checkCompared, ih]; split <;> simp
@[simp] theorem State.checkCompared_store_openSerial (s : State) (l : List Slot) : (s.checkCompared l).store.openSerial = s.store.openSerial := by
  induction l generalizing s with
  | nil => rfl
  | cons i rest ih => simp only [State.checkCompared, ih]; split <;> simp
@[simp] theorem State.checkCompared_store_billing (s : State) (l : List Slot) : (s.checkCompared l).store.billing = s.store.billing := by
  induction l generalizing s with
  | nil => rfl
  | cons i rest ih => simp only [State.checkCompared, ih]; split <;> simp

@[simp] theorem State.conclude_tu (s : State) (i : Slot) (b : Body) (r : Bool) : (s.conclude i b r).tu = s.tu := by
  unfold State.conclude; split <;> simp [State.putBody]
@[simp] theorem State.conclude_le (s : State) (i : Slot) (b : Body) (r : Bool) : (s.conclude i b r).le = s.le := by
  unfold State.conclude; split <;> simp [State.putBody]
@[simp] theorem State.conclude_cq (s : State) (i : Slot) (b : Body) (r : Bool) : (s.conclude i b r).cq = s.cq := by
  unfold State.conclude; split <;> simp [State.putBody]
@[simp] theorem State.conclude_sc (s : State) (i : Slot) (b : Body) (r : Bool) : (s.conclude i b r).sc = s.sc := by
  unfold State.conclude; split <;> simp [State.putBody]
@[simp] theorem State.conclude_hl (s : State) (i : Slot) (b : Body) (r : Bool) : (s.conclude i b r).hl = s.hl := by
  unfold State.conclude; split <;> simp [State.putBody]
@[simp] theorem State.conclude_re (s : State) (i : Slot) (b : Body) (r : Bool) : (s.conclude i b r).re = s.re := by
  unfold State.conclude; split <;> simp [State.putBody]
@[simp] theorem State.conclude_pins (s : State) (i : Slot) (b : Body) (r : Bool) : (s.conclude i b r).pins = s.pins := by
  unfold State.conclude; split <;> simp [State.putBody]
@[simp] theorem State.conclude_samples (s : State) (i : Slot) (b : Body) (r : Bool) : (s.conclude i b r).samples = s.samples := by
  unfold State.conclude; split <;> simp [State.putBody]
@[simp] theorem State.conclude_pending (s : State) (i : Slot) (b : Body) (r : Bool) : (s.conclude i b r).pending = s.pending := by
  unfold State.conclude; split <;> simp [State.putBody]
@[simp] theorem State.conclude_store_lists (s : State) (i : Slot) (b : Body) (r : Bool) : (s.conclude i b r).store.lists = s.store.lists := by
  unfold State.conclude; split <;> simp [State.putBody]
@[simp] theorem State.conclude_store_openSerial (s : State) (i : Slot) (b : Body) (r : Bool) : (s.conclude i b r).store.openSerial = s.store.openSerial := by
  unfold State.conclude; split <;> simp [State.putBody]
@[simp] theorem State.conclude_store_billing (s : State) (i : Slot) (b : Body) (r : Bool) : (s.conclude i b r).store.billing = s.store.billing := by
  unfold State.conclude; split <;> simp [State.putBody]

@[simp] theorem State.charge_tu (s : State) (i : Slot) (b : Body) (a q : Nat) : (s.charge i b a q).tu = s.tu := by
  simp only [State.charge]; split <;> simp
@[simp] theorem State.charge_le (s : State) (i : Slot) (b : Body) (a q : Nat) : (s.charge i b a q).le = s.le := by
  simp only [State.charge]; split <;> simp
@[simp] theorem State.charge_cq (s : State) (i : Slot) (b : Body) (a q : Nat) : (s.charge i b a q).cq = s.cq := by
  simp only [State.charge]; split <;> simp
@[simp] theorem State.charge_sc (s : State) (i : Slot) (b : Body) (a q : Nat) : (s.charge i b a q).sc = s.sc := by
  simp only [State.charge]; split <;> simp
@[simp] theorem State.charge_hl (s : State) (i : Slot) (b : Body) (a q : Nat) : (s.charge i b a q).hl = s.hl := by
  simp only [State.charge]; split <;> simp
@[simp] theorem State.charge_re (s : State) (i : Slot) (b : Body) (a q : Nat) : (s.charge i b a q).re = s.re := by
  simp only [State.charge]; split <;> simp
@[simp] theorem State.charge_pins (s : State) (i : Slot) (b : Body) (a q : Nat) : (s.charge i b a q).pins = s.pins := by
  simp only [State.charge]; split <;> simp
@[simp] theorem State.charge_samples (s : State) (i : Slot) (b : Body) (a q : Nat) : (s.charge i b a q).samples = s.samples := by
  simp only [State.charge]; split <;> simp
@[simp] theorem State.charge_pending (s : State) (i : Slot) (b : Body) (a q : Nat) : (s.charge i b a q).pending = s.pending := by
  simp only [State.charge]; split <;> simp
@[simp] theorem State.charge_store_lists (s : State) (i : Slot) (b : Body) (a q : Nat) : (s.charge i b a q).store.lists = s.store.lists := by
  simp only [State.charge]; split <;> simp
@[simp] theorem State.charge_store_openSerial (s : State) (i : Slot) (b : Body) (a q : Nat) : (s.charge i b a q).store.openSerial = s.store.openSerial := by
  simp only [State.charge]; split <;> simp
@[simp] theorem State.charge_store_billing (s : State) (i : Slot) (b : Body) (a q : Nat) : (s.charge i b a q).store.billing = s.store.billing := by
  simp only [State.charge]; split <;> simp

@[simp] theorem State.makeOccupant_tu (s : State) (i : Slot) : (s.makeOccupant i).tu = s.tu := by
  simp [State.makeOccupant]
@[simp] theorem State.makeOccupant_le (s : State) (i : Slot) : (s.makeOccupant i).le = s.le := by
  simp [State.makeOccupant]
@[simp] theorem State.makeOccupant_cq (s : State) (i : Slot) : (s.makeOccupant i).cq = s.cq := by
  simp [State.makeOccupant]
@[simp] theorem State.makeOccupant_sc (s : State) (i : Slot) : (s.makeOccupant i).sc = s.sc := by
  simp [State.makeOccupant]
@[simp] theorem State.makeOccupant_hl (s : State) (i : Slot) : (s.makeOccupant i).hl = s.hl := by
  simp [State.makeOccupant]
@[simp] theorem State.makeOccupant_re (s : State) (i : Slot) : (s.makeOccupant i).re = s.re := by
  simp [State.makeOccupant]
@[simp] theorem State.makeOccupant_pins (s : State) (i : Slot) : (s.makeOccupant i).pins = s.pins := by
  simp [State.makeOccupant]
@[simp] theorem State.makeOccupant_samples (s : State) (i : Slot) : (s.makeOccupant i).samples = s.samples := by
  simp [State.makeOccupant]
@[simp] theorem State.makeOccupant_pending (s : State) (i : Slot) : (s.makeOccupant i).pending = s.pending := by
  simp [State.makeOccupant]
@[simp] theorem State.makeOccupant_store_lists (s : State) (i : Slot) : (s.makeOccupant i).store.lists = s.store.lists := by
  simp [State.makeOccupant]
@[simp] theorem State.makeOccupant_store_openSerial (s : State) (i : Slot) : (s.makeOccupant i).store.openSerial = s.store.openSerial := by
  simp [State.makeOccupant]
@[simp] theorem State.makeOccupant_store_billing (s : State) (i : Slot) : (s.makeOccupant i).store.billing = s.store.billing := by
  simp [State.makeOccupant]

/-! ## Promotion -/

@[simp] theorem State.promoteFrom_tu (s : State) (n : Channel) (l : List Handle) :
    (s.promoteFrom n l).1.tu = s.tu := by
  induction l generalizing s with
  | nil => rfl
  | cons h rest ih => simp only [State.promoteFrom]; split <;> simp [ih]
@[simp] theorem State.promoteFrom_le (s : State) (n : Channel) (l : List Handle) :
    (s.promoteFrom n l).1.le = s.le := by
  induction l generalizing s with
  | nil => rfl
  | cons h rest ih => simp only [State.promoteFrom]; split <;> simp [ih]
@[simp] theorem State.promoteFrom_cq (s : State) (n : Channel) (l : List Handle) :
    (s.promoteFrom n l).1.cq = s.cq := by
  induction l generalizing s with
  | nil => rfl
  | cons h rest ih => simp only [State.promoteFrom]; split <;> simp [ih]
@[simp] theorem State.promoteFrom_sc (s : State) (n : Channel) (l : List Handle) :
    (s.promoteFrom n l).1.sc = s.sc := by
  induction l generalizing s with
  | nil => rfl
  | cons h rest ih => simp only [State.promoteFrom]; split <;> simp [ih]
@[simp] theorem State.promoteFrom_hl (s : State) (n : Channel) (l : List Handle) :
    (s.promoteFrom n l).1.hl = s.hl := by
  induction l generalizing s with
  | nil => rfl
  | cons h rest ih => simp only [State.promoteFrom]; split <;> simp [ih]
@[simp] theorem State.promoteFrom_re (s : State) (n : Channel) (l : List Handle) :
    (s.promoteFrom n l).1.re = s.re := by
  induction l generalizing s with
  | nil => rfl
  | cons h rest ih => simp only [State.promoteFrom]; split <;> simp [ih]
@[simp] theorem State.promoteFrom_pins (s : State) (n : Channel) (l : List Handle) :
    (s.promoteFrom n l).1.pins = s.pins := by
  induction l generalizing s with
  | nil => rfl
  | cons h rest ih => simp only [State.promoteFrom]; split <;> simp [ih]
@[simp] theorem State.promoteFrom_samples (s : State) (n : Channel) (l : List Handle) :
    (s.promoteFrom n l).1.samples = s.samples := by
  induction l generalizing s with
  | nil => rfl
  | cons h rest ih => simp only [State.promoteFrom]; split <;> simp [ih]
@[simp] theorem State.promoteFrom_pending (s : State) (n : Channel) (l : List Handle) :
    (s.promoteFrom n l).1.pending = s.pending := by
  induction l generalizing s with
  | nil => rfl
  | cons h rest ih => simp only [State.promoteFrom]; split <;> simp [ih]
@[simp] theorem State.promoteFrom_store_openSerial (s : State) (n : Channel) (l : List Handle) :
    (s.promoteFrom n l).1.store.openSerial = s.store.openSerial := by
  induction l generalizing s with
  | nil => rfl
  | cons h rest ih => simp only [State.promoteFrom]; split <;> simp [ih]
@[simp] theorem State.promoteFrom_store_billing (s : State) (n : Channel) (l : List Handle) :
    (s.promoteFrom n l).1.store.billing = s.store.billing := by
  induction l generalizing s with
  | nil => rfl
  | cons h rest ih => simp only [State.promoteFrom]; split <;> simp [ih]

@[simp] theorem State.leaveList_tu (s s0 : State) (i : Slot) : (s.leaveList s0 i).1.tu = s.tu := by
  simp only [State.leaveList]; split
  · rfl
  · split <;> simp [State.promote]
@[simp] theorem State.leaveList_le (s s0 : State) (i : Slot) : (s.leaveList s0 i).1.le = s.le := by
  simp only [State.leaveList]; split
  · rfl
  · split <;> simp [State.promote]
@[simp] theorem State.leaveList_cq (s s0 : State) (i : Slot) : (s.leaveList s0 i).1.cq = s.cq := by
  simp only [State.leaveList]; split
  · rfl
  · split <;> simp [State.promote]
@[simp] theorem State.leaveList_sc (s s0 : State) (i : Slot) : (s.leaveList s0 i).1.sc = s.sc := by
  simp only [State.leaveList]; split
  · rfl
  · split <;> simp [State.promote]
@[simp] theorem State.leaveList_hl (s s0 : State) (i : Slot) : (s.leaveList s0 i).1.hl = s.hl := by
  simp only [State.leaveList]; split
  · rfl
  · split <;> simp [State.promote]
@[simp] theorem State.leaveList_re (s s0 : State) (i : Slot) : (s.leaveList s0 i).1.re = s.re := by
  simp only [State.leaveList]; split
  · rfl
  · split <;> simp [State.promote]
@[simp] theorem State.leaveList_pins (s s0 : State) (i : Slot) : (s.leaveList s0 i).1.pins = s.pins := by
  simp only [State.leaveList]; split
  · rfl
  · split <;> simp [State.promote]
@[simp] theorem State.leaveList_samples (s s0 : State) (i : Slot) : (s.leaveList s0 i).1.samples = s.samples := by
  simp only [State.leaveList]; split
  · rfl
  · split <;> simp [State.promote]
@[simp] theorem State.leaveList_pending (s s0 : State) (i : Slot) : (s.leaveList s0 i).1.pending = s.pending := by
  simp only [State.leaveList]; split
  · rfl
  · split <;> simp [State.promote]
@[simp] theorem State.leaveList_store_openSerial (s s0 : State) (i : Slot) : (s.leaveList s0 i).1.store.openSerial = s.store.openSerial := by
  simp only [State.leaveList]; split
  · rfl
  · split <;> simp [State.promote]
@[simp] theorem State.leaveList_store_billing (s s0 : State) (i : Slot) : (s.leaveList s0 i).1.store.billing = s.store.billing := by
  simp only [State.leaveList]; split
  · rfl
  · split <;> simp [State.promote]

/-! ## Notices -/

@[simp] theorem State.notifyFrom_store (s0 s : State) (l : List Channel) : (State.notifyFrom s0 l s).store = s.store := by
  induction l generalizing s with
  | nil => rfl
  | cons n rest ih => simp only [State.notifyFrom, ih]; split <;> simp
@[simp] theorem State.sendNotices_store (s s0 : State) : (s.sendNotices s0).store = s.store := State.notifyFrom_store s0 s channels
@[simp] theorem State.notifyFrom_tu (s0 s : State) (l : List Channel) : (State.notifyFrom s0 l s).tu = s.tu := by
  induction l generalizing s with
  | nil => rfl
  | cons n rest ih => simp only [State.notifyFrom, ih]; split <;> simp
@[simp] theorem State.sendNotices_tu (s s0 : State) : (s.sendNotices s0).tu = s.tu := State.notifyFrom_tu s0 s channels
@[simp] theorem State.notifyFrom_le (s0 s : State) (l : List Channel) : (State.notifyFrom s0 l s).le = s.le := by
  induction l generalizing s with
  | nil => rfl
  | cons n rest ih => simp only [State.notifyFrom, ih]; split <;> simp
@[simp] theorem State.sendNotices_le (s s0 : State) : (s.sendNotices s0).le = s.le := State.notifyFrom_le s0 s channels
@[simp] theorem State.notifyFrom_cq (s0 s : State) (l : List Channel) : (State.notifyFrom s0 l s).cq = s.cq := by
  induction l generalizing s with
  | nil => rfl
  | cons n rest ih => simp only [State.notifyFrom, ih]; split <;> simp
@[simp] theorem State.sendNotices_cq (s s0 : State) : (s.sendNotices s0).cq = s.cq := State.notifyFrom_cq s0 s channels
@[simp] theorem State.notifyFrom_au (s0 s : State) (l : List Channel) : (State.notifyFrom s0 l s).au = s.au := by
  induction l generalizing s with
  | nil => rfl
  | cons n rest ih => simp only [State.notifyFrom, ih]; split <;> simp
@[simp] theorem State.sendNotices_au (s s0 : State) : (s.sendNotices s0).au = s.au := State.notifyFrom_au s0 s channels
@[simp] theorem State.notifyFrom_ru (s0 s : State) (l : List Channel) : (State.notifyFrom s0 l s).ru = s.ru := by
  induction l generalizing s with
  | nil => rfl
  | cons n rest ih => simp only [State.notifyFrom, ih]; split <;> simp
@[simp] theorem State.sendNotices_ru (s s0 : State) : (s.sendNotices s0).ru = s.ru := State.notifyFrom_ru s0 s channels
@[simp] theorem State.notifyFrom_hl (s0 s : State) (l : List Channel) : (State.notifyFrom s0 l s).hl = s.hl := by
  induction l generalizing s with
  | nil => rfl
  | cons n rest ih => simp only [State.notifyFrom, ih]; split <;> simp
@[simp] theorem State.sendNotices_hl (s s0 : State) : (s.sendNotices s0).hl = s.hl := State.notifyFrom_hl s0 s channels
@[simp] theorem State.notifyFrom_re (s0 s : State) (l : List Channel) : (State.notifyFrom s0 l s).re = s.re := by
  induction l generalizing s with
  | nil => rfl
  | cons n rest ih => simp only [State.notifyFrom, ih]; split <;> simp
@[simp] theorem State.sendNotices_re (s s0 : State) : (s.sendNotices s0).re = s.re := State.notifyFrom_re s0 s channels
@[simp] theorem State.notifyFrom_pins (s0 s : State) (l : List Channel) : (State.notifyFrom s0 l s).pins = s.pins := by
  induction l generalizing s with
  | nil => rfl
  | cons n rest ih => simp only [State.notifyFrom, ih]; split <;> simp
@[simp] theorem State.sendNotices_pins (s s0 : State) : (s.sendNotices s0).pins = s.pins := State.notifyFrom_pins s0 s channels
@[simp] theorem State.notifyFrom_samples (s0 s : State) (l : List Channel) : (State.notifyFrom s0 l s).samples = s.samples := by
  induction l generalizing s with
  | nil => rfl
  | cons n rest ih => simp only [State.notifyFrom, ih]; split <;> simp
@[simp] theorem State.sendNotices_samples (s s0 : State) : (s.sendNotices s0).samples = s.samples := State.notifyFrom_samples s0 s channels
@[simp] theorem State.notifyFrom_pending (s0 s : State) (l : List Channel) : (State.notifyFrom s0 l s).pending = s.pending := by
  induction l generalizing s with
  | nil => rfl
  | cons n rest ih => simp only [State.notifyFrom, ih]; split <;> simp
@[simp] theorem State.sendNotices_pending (s s0 : State) : (s.sendNotices s0).pending = s.pending := State.notifyFrom_pending s0 s channels

/-- A notice joins the others at its controller (R28, R104). -/
theorem State.notify_scAt (s : State) (n m : Channel) :
    (s.notify n).scAt m
      = if n = m then { s.scAt n with notices := (s.scAt n).notices ++ [s.viewOf n] } else s.scAt m :=
  s.setSc_scAt n m _

/-- What the notices of a claim do at one controller, for a list of channels without repeats. -/
theorem State.notifyFrom_scAt (s0 s : State) (l : List Channel) (hl : l.Nodup) (m : Channel) :
    (State.notifyFrom s0 l s).scAt m
      = if m ∈ l ∧ s.viewOf m ≠ s0.viewOf m then
          { s.scAt m with notices := (s.scAt m).notices ++ [s.viewOf m] }
        else s.scAt m := by
  induction l generalizing s with
  | nil => simp [State.notifyFrom]
  | cons n rest ih =>
    obtain ⟨hn, hrest⟩ := List.nodup_cons.mp hl
    simp only [State.notifyFrom]
    rw [ih _ hrest]
    by_cases hv : s.viewOf n = s0.viewOf n
    · simp only [hv, ↓reduceIte, List.mem_cons]
      by_cases hm : m = n
      · subst hm; simp [hv, hn]
      · simp [hm]
    · have hstore : (s.notify n).store = s.store := rfl
      simp only [hv, ↓reduceIte, viewOf_congr hstore, List.mem_cons]
      by_cases hm : m = n
      · subst hm
        simp [hn, hv, State.notify_scAt]
      · have hm' : ¬ n = m := fun e => hm e.symm
        simp [hm, hm', State.notify_scAt]

/-- The notices at the end of a claim (R18, R28): one to each controller whose channel's view changed. -/
theorem State.sendNotices_scAt (s s0 : State) (m : Channel) :
    (s.sendNotices s0).scAt m
      = if s.viewOf m = s0.viewOf m then s.scAt m
        else { s.scAt m with notices := (s.scAt m).notices ++ [s.viewOf m] } := by
  rw [State.sendNotices, State.notifyFrom_scAt s0 s channels (List.nodup_finRange 8) m]
  by_cases h : s.viewOf m = s0.viewOf m <;> simp [h, channels]

end Sys2Proof.Machine
end

