-- ==== Sys2Proof/Certificates/Slice0/Obligations.lean ====
section
/-! DEFINITION. The statements for the provers, in the order of OBLIGATIONS.json. -/

open Sys2Proof Sys2Proof.Machine

/-! ## The step and the laws of every state -/

/-- The model's choice (log 4): the command at the front of the queue is run with the queue's rest. -/
def Obligations.FrontCommandRuns : Prop :=
  ∀ (i : Instr) (rest : List Instr) (s : State),
    step { s with pending := i :: rest } = exec i { s with pending := rest }

/-- The model's choice (log 4): a command has its effect on everything but the queue; with no command waiting the step
is the internal step that is due; and with none due the 1 kHz time base advances by one count: it takes the next sample
(the last one again if none is given), advances recognisers, filters and timers, and puts into the queue exactly the
events that fall due: ten samples of FBK (R103), five of PFW (R135), 1 ms of PLS (R87), 40 ms of BTN (R112), the windows
and timers at their last count (R89, R107, R163), and the end of a write at 3 ms (R131).  An expiry that meets the
feedback event which ends its operation does not happen (R107, R108). -/
def Obligations.TimeBaseFeedsTheQueue : Prop :=
  (∀ (i : Instr) (s t : State), exec i s = .next t → t.pending = s.pending)
    ∧ (∀ (i : Instr) (s : State), s.pending = [] → s.due = some i → step s = exec i s)
    ∧ ∀ s : State, s.pending = [] → s.due = none →
        let p := match s.samples with
          | [] => s.pins
          | x :: _ => x
        let lessOne (left : Nat) : Nat := if left ≤ 1 then left else left - 1
        let counted (r : Recogniser) : Recogniser :=
          match r with
          | .qualifying k => .qualifying (k + 1)
          | .waitDeassert => .waitDeassert
          | .waitAssert => .waitAssert
        let turns (r : Recogniser) (level : Bool) : Prop :=
          (r = .waitDeassert ∧ level = false) ∨ (r = .waitAssert ∧ level = true)
            ∨ ((∃ k, r = .qualifying k) ∧ level = false)
        let filtered (n : Channel) : Prop :=
          p.fbk.getLsbD n.val ≠ (s.scAt n).feedback ∧ 10 ≤ (s.scAt n).feedbackRun + 1
        let confirmed (n : Channel) : Prop :=
          filtered n ∧ ((s.scAt n).state = .opening ∧ p.fbk.getLsbD n.val = false
            ∨ (s.scAt n).state = .closing ∧ p.fbk.getLsbD n.val = true)
        ∃ t, step s = .next t
          ∧ t.pins = p ∧ t.samples = s.samples.tail
          ∧ t.store = s.store ∧ t.tu = s.tu ∧ t.le = s.le ∧ t.au = s.au ∧ t.re = s.re
          ∧ (∀ n, t.cqAt n = { s.cqAt n with
              recogniser := counted (s.cqAt n).recogniser
              accumulation :=
                match (s.cqAt n).accumulation with
                | .idle => .idle
                | .accumulating count left => .accumulating count (lessOne left) })
          ∧ (∀ n, t.scAt n = { s.scAt n with
              button := counted (s.scAt n).button, timer := (s.scAt n).timer.map lessOne
              feedbackRun :=
                if p.fbk.getLsbD n.val = (s.scAt n).feedback then 0 else (s.scAt n).feedbackRun + 1 })
          ∧ t.ru = { s.ru with
              pfwRun := if p.pfw = s.ru.pfw then 0 else s.ru.pfwRun + 1
              engine :=
                match s.ru.engine with
                | .writing w => .writing { w with elapsed := w.elapsed + 1 }
                | .idle => .idle
                | .snapshot g => .snapshot g }
          ∧ t.hl = { s.hl with gap := s.hl.gap.map lessOne }
          ∧ (∀ n level, .feedbackEvent n level ∈ t.pending ↔ filtered n ∧ level = p.fbk.getLsbD n.val)
          ∧ (∀ level, .pfwEvent level ∈ t.pending ↔ level = p.pfw ∧ p.pfw ≠ s.ru.pfw ∧ 5 ≤ s.ru.pfwRun + 1)
          ∧ (∀ n, .windowTimerExpiry n ∈ t.pending ↔
              ∃ count left, (s.cqAt n).accumulation = .accumulating count left ∧ left ≤ 1)
          ∧ (∀ n, .operationTimerExpiry n ∈ t.pending ↔
              (∃ left, (s.scAt n).timer = some left ∧ left ≤ 1)
                ∧ ¬confirmed n)
          ∧ (.gapTimerExpiry ∈ t.pending ↔ ∃ left, s.hl.gap = some left ∧ left ≤ 1)
          ∧ (∀ found, .writeCompletion found ∈ t.pending ↔
              found = none ∧ ∃ w, s.ru.engine = .writing w ∧ 3 ≤ w.elapsed + 1)
          ∧ (∀ n level, .pulseRecogniserEdge n level ∈ t.pending ↔
              level = p.pls.getLsbD n.val ∧ turns (s.cqAt n).recogniser level)
          ∧ (∀ n, .pulseEvent n ∈ t.pending ↔
              p.pls.getLsbD n.val = true ∧ ∃ k, (s.cqAt n).recogniser = .qualifying k ∧ 1 ≤ k + 1)
          ∧ (∀ n level, .buttonRecogniserEdge n level ∈ t.pending ↔
              level = p.btn.getLsbD n.val ∧ turns (s.scAt n).button level)
          ∧ (∀ n, .press n ∈ t.pending ↔
              p.btn.getLsbD n.val = true ∧ ∃ k, (s.scAt n).button = .qualifying k ∧ 40 ≤ k + 1)
          ∧ ∀ i ∈ t.pending, (∃ level, i = .pfwEvent level) ∨ i = .gapTimerExpiry ∨ i = .writeCompletion none
              ∨ ∃ n, i = .windowTimerExpiry n ∨ i = .operationTimerExpiry n ∨ i = .pulseEvent n ∨ i = .press n
                ∨ ∃ level, i = .feedbackEvent n level ∨ i = .pulseRecogniserEdge n level
                  ∨ i = .buttonRecogniserEdge n level

/-- Every command of the part, and nothing else, answers a next state: no ordinary data ends a run.  That a term
which is no command faults is the model's choice (log 1), and so is that a command answers a next state also where its
step cannot take place (log 2). -/
def Obligations.WellFormedCommandsAnswer : Prop :=
  ∀ (i : Instr) (s : State),
    (i.WellFormed = true → ∃ t, exec i s = .next t) ∧ (i.WellFormed = false → exec i s = .fault .illFormed)

/-- R168, R171, R173: no queue of the link ever holds more than four entries, and a request is served only while
its response has a place. -/
def Obligations.StepKeepsQueueLaw : Prop :=
  ∀ s t : State, s.QueueLaw → step s = .next t → t.QueueLaw

/-- R149, R152: the laws of the attention list and the ATTN line. -/
def Obligations.StepKeepsAttentionLaw : Prop :=
  ∀ s t : State, s.AttentionLaw → step s = .next t → t.AttentionLaw

/-- R102: DRV[n] is asserted exactly in CLOSING and CLOSED, save in ADOPTING, and the operation timer runs exactly
in CLOSING and OPENING. -/
def Obligations.StepKeepsDriveLaw : Prop :=
  ∀ s t : State, s.DriveLaw → step s = .next t → t.DriveLaw

/-- R126, R127: the commit queue holds each item at most once and no barred item. -/
def Obligations.StepKeepsCommitLaw : Prop :=
  ∀ s t : State, s.CommitLaw → step s = .next t → t.CommitLaw

/-- R11: no step of the part leaves a record whose word does not match its content. -/
def Obligations.StepKeepsIntegrityLaw : Prop :=
  ∀ s t : State, s.IntegrityLaw → step s = .next t → t.IntegrityLaw

/-- The five laws hold of the machine right after its first power-on reset. -/
def Obligations.LawsHoldAtReset : Prop :=
  State.reset.QueueLaw ∧ State.reset.AttentionLaw ∧ State.reset.DriveLaw ∧ State.reset.CommitLaw
    ∧ State.reset.IntegrityLaw ∧ State.reset.MoneyLaw

/-- R43, R45: no command but the restore load, which trusts the array (R65), breaks the conservation law or takes
a balance out of its bounds.  An OPEN claim carries an opening balance in the range that the Request Engine
checks. -/
def Obligations.CommandsKeepMoneyLaw : Prop :=
  ∀ (i : Instr) (s t : State),
    i ≠ .restoreLoad →
    (∀ a, s.claim = some (.openAccount a) → -100000000 ≤ a.opening.toInt ∧ a.opening.toInt ≤ 100000000) →
    s.MoneyLaw → exec i s = .next t → t.MoneyLaw

/-- R6: the version of an account that stays in WAITING, LIVE or SETTLED changes only in the five requests that
count as changes by the host. -/
def Obligations.VersionsCountHostChanges : Prop :=
  ∀ (c : Instr) (s t : State) (i : Slot),
    exec c s = .next t →
    (s.lifeAt i = .waiting ∨ s.lifeAt i = .live ∨ s.lifeAt i = .settled) →
    c ≠ .topUp → c ≠ .adjust → c ≠ .setLimits → c ≠ .close → c ≠ .rewrite →
    c ≠ .release → c ≠ .restoreLoad →
    (∀ cut first, c ≠ .powerOnReset cut first ∧ c ≠ .pinReset cut first ∧ c ≠ .softResetEffect first) →
    (t.bodyAt i).version = (s.bodyAt i).version

/-- R108: a channel passes from OPEN or ARMED to CLOSING only through a press, a RECONNECT where remote reconnect is
allowed, or the result of an engagement that a press asked for. -/
def Obligations.ClosingBeginsOnlyOnRequest : Prop :=
  ∀ (c : Instr) (s t : State) (n : Channel),
    exec c s = .next t →
    ((s.scAt n).state = .opened ∨ (s.scAt n).state = .armed) → (t.scAt n).state = .closing →
    c = .press n ∨ (c = .reconnect ∧ (s.cqAt n).config.reconnect = true)
      ∨ (c = .engageResult n ∧ ∃ e, (s.scAt n).engage = some e ∧ e.fromClosed = false)

/-- R9, R139, R184: restore reads back from an account item's content the record that the snapshot serialised, for
every record in WAITING, LIVE or SETTLED whose fields hold values of their ranges, and the FREE form; and it reads back
the tariff and settings items, whose byte layout is the model's choice (log 12). -/
def Obligations.ItemsReadBack : Prop :=
  (∀ (i : Slot) (x : SlotState),
      (x.life = .waiting ∨ x.life = .live ∨ x.life = .settled) → x.generation ≠ 0#11 →
      x.body.channel ≤ 7#8 → x.body.tariff ≤ 3#8 → x.body.credit ≤ 4#8 → x.body.emergency ≤ 4#8 →
      x.body.flags ≤ 1#8 → x.body.vouchers.length ≤ 4 → (∀ c ∈ x.body.closing, c.reason = hostClose) →
      parseAccount i (serialise i x)
        = some { life := x.life, generation := x.generation, body := x.body.shown x.life })
    ∧ (∀ (i : Slot) (counter : Generation),
        parseAccount i (serialise i (freeForm i counter))
          = some { life := .free, generation := 0#11, body := Body.absent })
    ∧ (∀ bank : Bank, (∀ t : Tariff, bank.standing[t].toNat ≤ 1000000) → parseTariff (tariffBytes bank) = some bank)
    ∧ ∀ x : Settings, (∀ n : Channel, x.configs[n].inRange = true) → parseSettings (settingsBytes x) = some x

/-! ## The host link and the Request Engine -/

/-- R167: a request frame that passes the five checks is admitted, and nothing else but the link's own frame state
changes. -/
def Obligations.RequestFrameAdmitted : Prop :=
  ∀ (s : State) (tag code : Byte) (payload : List Byte),
    s.hl.frame = .idle → tag ≠ 0#8 → payload.length ≤ 96 → s.hl.requests.length < 4 →
    (s.ru.power = .run ∨ s.ru.power = .holdup) →
    let bytes := [0x51#8, tag, code, count8 payload.length] ++ payload
    ∃ t, exec (.requestFrame (.frame (bytes ++ [crc8 bytes]))) s = .next t
      ∧ t.hl.requests = s.hl.requests ++ [{ tag := tag, code := code, payload := payload }]
      ∧ t.hl.responses = s.hl.responses ∧ t.hl.result = .accepted ∧ t.hl.frame = .idle ∧ t.hl.gap = none
      ∧ t.hl.sent = statusByte s :: List.replicate (4 + payload.length) 0#8
      ∧ { t with hl := s.hl } = s

/-- R167: every byte of a request frame is counted and the first 101 are stored; the checks at the end of the frame, in
their order, from the bytes stored and counted; a frame that fails one records its result and is not queued. -/
def Obligations.RequestFrameChecksInOrder : Prop :=
  ∀ (s : State), s.hl.frame = .request →
    (∀ b, s.hl.shift = [] →
      exec (.requestFrame (.byte b)) s
        = .next { s with
            hl := { s.hl with
              count := s.hl.count + 1, sent := s.hl.sent ++ [s.hl.out], out := 0#8, gap := some 10
              stored := if s.hl.stored.length < 101 then s.hl.stored ++ [b] else s.hl.stored } }) ∧
    let stored := s.hl.stored
    let length := (byteAt stored 3).toNat
    let result : FrameResult :=
      if s.hl.count < 4 ∨ length > 96 ∨ s.hl.count ≠ 5 + length then .badLength
      else if crc8 (stored.take (4 + length)) ≠ byteAt stored (4 + length) then .badCheck
      else if byteAt stored 1 = 0#8 then .badType
      else if 4 ≤ s.hl.requests.length then .queueFull
      else if s.ru.power = .restoring ∨ s.ru.power = .draining then .notReady
      else .accepted
    let request : Request :=
      { tag := byteAt stored 1, code := byteAt stored 2, payload := (stored.drop 4).take length }
    exec (.requestFrame .csnDeasserts) s
      = .next { s with
          hl := { s.hl with
            frame := .idle, gap := none, result := result
            requests := if result = .accepted then s.hl.requests ++ [request] else s.hl.requests } }

/-- R169, R170: a fetch frame clocked to its end delivers the head response and removes it; a place freed in a full
queue lets the Engine take its next request in the same event, which R170 permits and the model does (log 6).  A frame
clocked short removes nothing.  With no response the empty response is delivered. -/
def Obligations.FetchFrameDelivers : Prop :=
  ∀ (s : State) (mosi : List Byte), s.hl.frame = .idle →
    (∀ (r : Response) (rest : List Response), s.hl.responses = r :: rest →
      let bytes := [r.tag, r.code, outcomeCode r.outcome, count8 r.payload.length] ++ r.payload
      let full := 5 + r.payload.length ≤ mosi.length
      ∃ t, exec (.fetchFrame (.frame (0x46#8 :: mosi))) s = .next t
        ∧ t.hl.responses = (if full then rest else r :: rest)
        ∧ t.hl.result = (if full then .accepted else .fetchIncomplete)
        ∧ t.hl.sent = (statusByte s :: (bytes ++ [crc8 bytes] ++ List.replicate mosi.length 0#8).take mosi.length)
        ∧ t.hl.frame = .idle ∧ t.hl.gap = none
        ∧ (rest.length < 3 ∨ ¬full → { t with hl := s.hl } = s ∧ t.hl.requests = s.hl.requests)
        ∧ ∀ q qs, full → rest.length = 3 → s.re = none → (s.ru.power = .run ∨ s.ru.power = .holdup) →
            s.hl.requests = q :: qs →
            t.hl.requests = qs ∧ t.re = some { request := q, phase := validate s.ru.power q }
              ∧ { t with hl := s.hl, re := none } = s)
    ∧ (s.hl.responses = [] →
        let bytes := [0#8, 0#8, 0xFF#8, 0#8]
        ∃ t, exec (.fetchFrame (.frame (0x46#8 :: mosi))) s = .next t
          ∧ t.hl.result = (if 5 ≤ mosi.length then .accepted else .fetchIncomplete)
          ∧ t.hl.sent = (statusByte s :: (bytes ++ [crc8 bytes] ++ List.replicate mosi.length 0#8).take mosi.length)
          ∧ t.hl.responses = [] ∧ t.hl.requests = s.hl.requests ∧ t.hl.frame = .idle ∧ { t with hl := s.hl } = s)

/-- R162, R163, R164: how the other frames end: no type, empty, found in progress by a reset, and timed out. -/
def Obligations.OtherFramesEnd : Prop :=
  (∀ (s : State) (kind : Byte) (mosi : List Byte),
      s.hl.frame = .idle → kind ≠ 0x51#8 → kind ≠ 0x46#8 →
      ∃ t, exec (.badTypeFrame (.frame (kind :: mosi))) s = .next t
        ∧ t.hl.result = .badType ∧ t.hl.frame = .idle ∧ t.hl.requests = s.hl.requests
        ∧ t.hl.responses = s.hl.responses ∧ t.hl.gap = none ∧ { t with hl := s.hl } = s)
    ∧ (∀ s : State, s.hl.frame = .idle →
        ∃ t, exec (.emptyFrame (.frame [])) s = .next t
          ∧ t.hl.result = s.hl.result ∧ t.hl.frame = .idle ∧ t.hl.requests = s.hl.requests
          ∧ t.hl.responses = s.hl.responses ∧ t.hl.gap = none ∧ { t with hl := s.hl } = s)
    ∧ (∀ s : State, s.hl.frame = .waitDeassert →
        exec (.waitDeassertEnd .csnDeasserts) s = .next { s with hl := { s.hl with frame := .idle, gap := none } })
    ∧ (∀ s : State, s.hl.frame = .kind ∨ s.hl.frame = .request ∨ s.hl.frame = .fetch →
        exec .gapTimerExpiry s = .next { s with hl := { s.hl with frame := .discard .timeout, gap := none } })
    ∧ (∀ s : State, s.hl.frame = .discard .timeout →
        exec (.timedOutFrameEnd .csnDeasserts) s
          = .next { s with hl := { s.hl with frame := .idle, gap := none, result := .timeout } })

/-- R161, R165: at the assertion of CSN the status byte shows the power state, the two queues, the attention list and the
result of the previous frame, the gap timer starts, and the first bit of the byte is on MISO.  The byte is shifted out
during byte 0, whatever the host sends in it, and also where the gap timer discards the frame within that byte; every
bit clocked of an incomplete byte shifts out the bit of the byte being sent that stands against it. -/
def Obligations.StatusByteLoaded : Prop :=
  (∀ s : State, s.hl.frame = .idle →
    ∃ t, exec (.emptyFrame .csnAsserts) s = .next t
      ∧ t.hl.frame = .kind ∧ t.hl.gap = some 10
      ∧ (t.hl.status.getLsbD 7 = true ↔ s.ru.power = .run ∨ s.ru.power = .holdup)
      ∧ (t.hl.status.getLsbD 6 = true ↔ s.hl.responses ≠ [])
      ∧ (t.hl.status.getLsbD 5 = true ↔ s.hl.requests.length < 4)
      ∧ (t.hl.status.getLsbD 4 = true ↔ s.au.list ≠ [])
      ∧ (t.hl.status.getLsbD 3 = true ↔ s.ru.power = .holdup)
      ∧ t.hl.status &&& 0x07#8 = frameResultCode s.hl.result
      ∧ t.hl.result = s.hl.result ∧ t.hl.requests = s.hl.requests ∧ t.hl.responses = s.hl.responses
      ∧ { t with hl := s.hl } = s
      ∧ t.hl.miso = some (t.hl.status.getLsbD 7) ∧ t.hl.misoBits = []
      ∧ (∀ b : Byte,
          let event : Instr :=
            if b = 0x51#8 then .requestFrame (.byte b)
            else if b = 0x46#8 then .fetchFrame (.byte b) else .badTypeFrame (.byte b)
          ∃ u, exec event t = .next u ∧ u.hl.sent = [t.hl.status])
      ∧ ∃ d, exec .gapTimerExpiry t = .next d ∧ d.hl.frame = .discard .timeout
          ∧ ∀ b : Byte, ∃ u, exec (.timedOutFrameEnd (.byte b)) d = .next u ∧ u.hl.sent = [t.hl.status]
              ∧ ∀ c : Byte, ∃ v, exec (.timedOutFrameEnd (.byte c)) u = .next v ∧ v.hl.sent = [t.hl.status, 0#8])
    ∧ ∀ (s : State) (bit : Bool), s.hl.frame = .kind → s.hl.shift.length < 7 →
        ∃ t, exec (.emptyFrame (.clock bit)) s = .next t
          ∧ t.hl.misoBits = s.hl.misoBits ++ [s.hl.out.getLsbD (7 - s.hl.shift.length)]
          ∧ t.hl.miso = some (s.hl.out.getLsbD (6 - s.hl.shift.length))
          ∧ t.hl = { s.hl with shift := s.hl.shift ++ [bit] } ∧ { t with hl := s.hl } = s

/-- R173, R174: the Engine takes the head of the request queue when it is IDLE, a response has a place and the power
state is RUN or HOLDUP, and refuses it at the first check that fails; while one of the four conditions is false it
takes none.  The tables behind the checks, row by row: the codes, lengths and classes of Tables 9-1 and 10-5, and for
each request the fields of its payload with the range that its rule gives each (R182). -/
def Obligations.RequestTakenAndValidated : Prop :=
  (∀ (s : State) (r : Request) (rest : List Request),
      s.re = none → s.hl.requests = r :: rest → s.hl.responses.length < 4 →
      (s.ru.power = .run ∨ s.ru.power = .holdup) →
      ∃ v : Serving,
        exec .requestTake s = .next { s with hl := { s.hl with requests := rest }, re := some v }
        ∧ v.request = r
        ∧ (requestKind r.code = none → v.phase = .answered { outcome := .unknownRequest, payload := [] })
        ∧ ∀ k, requestKind r.code = some k →
            (r.payload.length ∉ allowedLengths k → v.phase = .answered { outcome := .badLength, payload := [] })
            ∧ (r.payload.length ∈ allowedLengths k → claimOf k r.payload = none →
                v.phase = .answered { outcome := .badArgument, payload := [] })
            ∧ ∀ c, r.payload.length ∈ allowedLengths k → claimOf k r.payload = some c →
                (s.ru.power = .holdup → changesState k = true → k ≠ .softReset →
                  v.phase = .answered { outcome := .powerLow, payload := [] })
                ∧ (s.ru.power = .run ∨ changesState k = false ∨ k = .softReset → v.phase = firstPhase c))
    ∧ (∀ s : State,
        (s.re ≠ none ∨ s.hl.requests = [] ∨ 4 ≤ s.hl.responses.length ∨ s.ru.power = .restoring
          ∨ s.ru.power = .draining) →
        exec .requestTake s = .next s)
    ∧ (let rows : List (Byte × RequestKind × List Nat × Bool) :=
        [(0x01#8, .identify, [0], false), (0x02#8, .readDevice, [0], false), (0x03#8, .softReset, [0], true)]
        ++ [(0x10#8, .openAccount, [22], true), (0x11#8, .lookup, [8], false), (0x12#8, .readAccount, [2], false),
          (0x13#8, .survey, [1], false), (0x14#8, .close, [2, 4], true), (0x15#8, .release, [2], true),
          (0x16#8, .rewrite, [21, 23], true), (0x17#8, .discard, [2], true)]
        ++ [(0x20#8, .topUp, [10, 12], true), (0x21#8, .adjust, [8], true), (0x22#8, .setLimits, [11, 13], true)]
        ++ [(0x30#8, .setBand, [1], true), (0x31#8, .setPrice, [4], true), (0x32#8, .setStanding, [5], true),
          (0x33#8, .readTariff, [2], false), (0x34#8, .commitTariffs, [0], true), (0x35#8, .levy, [2], true),
          (0x36#8, .cancelLevy, [0], true)]
        ++ [(0x40#8, .configureChannel, [9], true), (0x41#8, .readChannel, [1], false),
          (0x42#8, .billUnbilled, [3], true)]
        ++ [(0x50#8, .setHold, [2], true), (0x51#8, .reconnect, [1], true), (0x52#8, .clearFault, [1], true)]
        ++ [(0x60#8, .fetchAttention, [0], false), (0x61#8, .ackAttention, [3], false),
          (0x62#8, .setAttentionMask, [3], true)]
      (∀ code, requestKind code = (rows.find? fun r => r.1 == code).map fun r => r.2.1)
        ∧ ∀ r ∈ rows, allowedLengths r.2.1 = r.2.2.1 ∧ changesState r.2.1 = r.2.2.2)
    ∧ ∀ (p : List Byte) (c : Claim),
        let number (off : Nat) : Nat := (byteAt p off).toNat
        let version (off : Nat) : Option (BitVec 16) := if off < p.length then some (field16 p off) else none
        (claimOf .identify p = some .identify ∧ claimOf .readDevice p = some .readDevice
          ∧ claimOf .softReset p = some .softReset ∧ claimOf .commitTariffs p = some .commitTariffs
          ∧ claimOf .cancelLevy p = some .cancelLevy ∧ claimOf .fetchAttention p = some .fetchAttention
          ∧ claimOf .lookup p = some (.lookup (referenceAt p 0))
          ∧ claimOf .readAccount p = some (.readAccount (field16 p 0))
          ∧ claimOf .close p = some (.close (field16 p 0) (version 2))
          ∧ claimOf .release p = some (.release (field16 p 0))
          ∧ claimOf .discard p = some (.discard (field16 p 0)))
        ∧ (claimOf .openAccount p = some c ↔ ∃ a : OpenArgs, c = .openAccount a
            ∧ number 0 = a.channel.val ∧ a.reference = referenceAt p 1
            ∧ a.tariff = byteAt p 9 ∧ number 9 ≤ 3
            ∧ a.threshold = field32 p 10 ∧ a.threshold.toNat ≤ 100000000
            ∧ a.allowance = field32 p 14 ∧ a.allowance.toNat ≤ 10000000
            ∧ a.opening = field32 p 18 ∧ -100000000 ≤ a.opening.toInt ∧ a.opening.toInt ≤ 100000000)
        ∧ (claimOf .survey p = some c ↔ ∃ i : Slot, c = .survey i ∧ number 0 = i.val)
        ∧ (claimOf .rewrite p = some c ↔ ∃ a : RewriteArgs, c = .rewrite a
            ∧ a.handle = field16 p 0
            ∧ (a.target = .waiting ∧ number 2 = 2 ∨ a.target = .live ∧ number 2 = 3
                ∨ a.target = .settled ∧ number 2 = 4)
            ∧ number 3 = a.channel.val ∧ a.reference = referenceAt p 4
            ∧ a.tariff = byteAt p 12 ∧ number 12 ≤ 3
            ∧ a.threshold = field32 p 13 ∧ a.threshold.toNat ≤ 100000000
            ∧ a.allowance = field32 p 17 ∧ a.allowance.toNat ≤ 10000000 ∧ a.expected = version 21)
        ∧ (claimOf .topUp p = some c ↔ ∃ a : TopUpArgs, c = .topUp a
            ∧ a.handle = field16 p 0 ∧ a.voucher = field32 p 2 ∧ a.voucher ≠ 0#32
            ∧ a.amount = field32 p 6 ∧ 1 ≤ a.amount.toNat ∧ a.amount.toNat ≤ 100000000 ∧ a.expected = version 10)
        ∧ (claimOf .adjust p = some c ↔ ∃ a : AdjustArgs, c = .adjust a
            ∧ a.handle = field16 p 0 ∧ a.expected = field16 p 2
            ∧ a.amount = field32 p 4 ∧ a.amount ≠ 0#32 ∧ -100000000 ≤ a.amount.toInt
            ∧ a.amount.toInt ≤ 100000000)
        ∧ (claimOf .setLimits p = some c ↔ ∃ a : LimitsArgs, c = .setLimits a
            ∧ a.handle = field16 p 0 ∧ a.tariff = byteAt p 2 ∧ number 2 ≤ 3
            ∧ a.threshold = field32 p 3 ∧ a.threshold.toNat ≤ 100000000
            ∧ a.allowance = field32 p 7 ∧ a.allowance.toNat ≤ 10000000 ∧ a.expected = version 11)
        ∧ (claimOf .setBand p = some c ↔ ∃ band : Band, c = .setBand band ∧ number 0 = band.val)
        ∧ (claimOf .setPrice p = some c ↔ ∃ (tariff : Tariff) (band : Band),
            c = .setPrice tariff band (field16 p 2) ∧ number 0 = tariff.val ∧ number 1 = band.val)
        ∧ (claimOf .setStanding p = some c ↔ ∃ tariff : Tariff,
            c = .setStanding tariff (field32 p 1) ∧ number 0 = tariff.val ∧ (field32 p 1).toNat ≤ 1000000)
        ∧ (claimOf .readTariff p = some c ↔ ∃ (active : Bool) (tariff : Tariff),
            c = .readTariff active tariff ∧ number 0 = (if active then 1 else 2) ∧ number 1 = tariff.val)
        ∧ (claimOf .levy p = some c ↔ c = .levy (field16 p 0) ∧ field16 p 0 ≠ 0#16)
        ∧ (claimOf .configureChannel p = some c ↔ ∃ (n : Channel) (f : ChannelConfig), c = .configureChannel n f
            ∧ number 0 = n.val
            ∧ f.divisor = fieldAt p 1 2 ∧ 1 ≤ f.divisor ∧ f.divisor ≤ 4096
            ∧ f.window = fieldAt p 3 2 ∧ 1 ≤ f.window ∧ f.window ≤ 3600
            ∧ f.timeout = fieldAt p 5 2 ∧ 20 ≤ f.timeout ∧ f.timeout ≤ 2000
            ∧ number 7 = (if f.reconnect then 1 else 0) ∧ number 8 = (if f.reclose then 1 else 0))
        ∧ (claimOf .readChannel p = some c ↔ ∃ n : Channel, c = .readChannel n ∧ number 0 = n.val)
        ∧ (claimOf .billUnbilled p = some c ↔ ∃ n : Channel, c = .billUnbilled n (field16 p 1) ∧ number 0 = n.val)
        ∧ (claimOf .setHold p = some c ↔ ∃ set : Bool,
            c = .setHold (byteAt p 0) set ∧ number 1 = (if set then 1 else 2))
        ∧ (claimOf .reconnect p = some c ↔ ∃ n : Channel, c = .reconnect n ∧ number 0 = n.val)
        ∧ (claimOf .clearFault p = some c ↔ ∃ n : Channel, c = .clearFault n ∧ number 0 = n.val)
        ∧ (claimOf .ackAttention p = some c ↔ ∃ x : Subject, c = .ackAttention x (byteAt p 2)
            ∧ (match x with
              | .slot i => number 0 = 1 ∧ number 1 = i.val ∧ number 2 < 128
              | .channel n => number 0 = 2 ∧ number 1 = n.val ∧ number 2 < 16
              | .device => number 0 = 3 ∧ number 1 = 0 ∧ number 2 < 32))
        ∧ (claimOf .setAttentionMask p = some c ↔
            c = .setAttentionMask { slot := byteAt p 0, channel := byteAt p 1, device := byteAt p 2 }
              ∧ number 0 < 128 ∧ number 1 < 16 ∧ number 2 < 32)

/-- R176: the Engine appends the response to the tail of the response queue, with the tag and code of its request,
and returns to IDLE in the same event. -/
def Obligations.ResponseQueued : Prop :=
  ∀ (s : State) (q : Request) (o : OutcomeCode) (p : List Byte),
    s.re = some { request := q, phase := .answered { outcome := o, payload := p } } →
    exec .responseQueue s
      = .next { s with
          hl := { s.hl with responses := s.hl.responses ++ [{ tag := q.tag, code := q.code, outcome := o, payload := p }] }
          re := none }

/-! ## Reading the table -/

/-- R3: the handle of an account, its resolution by remainder and quotient on division by 32, and the answer
NO_SUCH_ACCOUNT, without any change, to every request whose handle does not resolve.  No handle value is refused as an
argument. -/
def Obligations.HandlesResolve : Prop :=
  (∀ (s : State) (i : Slot), (s.handleAt i).toNat = (s.slotAt i).generation.toNat * 32 + i.val)
    ∧ (∀ (s : State) (h : Handle) (i : Slot),
        s.resolve h = some i ↔
          i.val = h.toNat % 32 ∧ h.toNat / 32 ≠ 0 ∧ s.lifeAt i ≠ .free
            ∧ (s.slotAt i).generation.toNat = h.toNat / 32)
    ∧ (∀ p : List Byte, claimOf .readAccount p = some (.readAccount (field16 p 0)))
    ∧ ∀ (s : State) (q : Request) (h : Handle),
        let unanswered := .next (s.answering q .noSuchAccount [])
        s.storeTakes = true → s.resolve h = none →
        (s.Serves q (.readAccount h) → exec .readAccount s = unanswered)
          ∧ (∀ v, s.Serves q (.close h v) → exec .close s = unanswered)
          ∧ (s.Serves q (.release h) → exec .release s = unanswered)
          ∧ (∀ a, a.handle = h → s.Serves q (.rewrite a) → exec .rewrite s = unanswered)
          ∧ (s.Serves q (.discard h) → exec .discard s = unanswered)
          ∧ (∀ a, a.handle = h → s.Serves q (.topUp a) → exec .topUp s = unanswered)
          ∧ (∀ a, a.handle = h → s.Serves q (.adjust a) → exec .adjust s = unanswered)
          ∧ (∀ a, a.handle = h → s.Serves q (.setLimits a) → exec .setLimits s = unanswered)
          ∧ (∀ n, s.Serves q (.billUnbilled n h) → exec .billUnbilled s = unanswered)

/-- R19 to R21, over records that pass their checks: READ_ACCOUNT answers the serialised form; SURVEY gives the first
eight slots in use from the start slot, in ascending order, and the resume slot; LOOKUP reports the matching account
that is in WAITING, LIVE or SETTLED, or else the lowest matching quarantined one with its held state, with the number
of other records that carry the reference, and answers NO_SUCH_ACCOUNT where nothing matches.  None changes
anything. -/
def Obligations.TableReadsAnswered : Prop :=
  ∀ (s : State) (q : Request), s.storeTakes = true →
    let carries (r : Reference) (j : Slot) : Prop :=
      s.lifeAt j ≠ .free ∧ s.lifeAt j ≠ .lost ∧ (s.bodyAt j).reference = r
    let account (j : Slot) : Prop := s.lifeAt j = .waiting ∨ s.lifeAt j = .live ∨ s.lifeAt j = .settled
    let others (r : Reference) (i : Slot) : Nat :=
      slots.countP fun j => j ≠ i ∧ s.lifeAt j ≠ .free ∧ s.lifeAt j ≠ .lost ∧ (s.bodyAt j).reference = r
    (∀ h i, s.Serves q (.readAccount h) → s.resolve h = some i → s.intactAt i = true →
      exec .readAccount s = .next (s.answering q .ok (serialise i (s.slotAt i))))
    ∧ (∀ (r : Reference) (i : Slot),
        s.Serves q (.lookup r) → s.IntegrityLaw → account i → (s.bodyAt i).reference = r →
        (∀ j, j ≠ i → carries r j → ¬account j) →
        exec .lookup s
          = .next (s.answering q .ok
              (le16 (s.handleAt i)
                ++ [lifeCode (s.lifeAt i), (s.bodyAt i).channel, 0#8, count8 (others r i)])))
    ∧ (∀ (r : Reference) (i : Slot) (held : Held),
        s.Serves q (.lookup r) → s.IntegrityLaw → s.lifeAt i = .quarantined held → (s.bodyAt i).reference = r →
        (∀ j, carries r j → ¬account j) → (∀ j, j < i → ¬carries r j) →
        exec .lookup s
          = .next (s.answering q .ok
              (le16 (s.handleAt i)
                ++ [5#8, (s.bodyAt i).channel,
                  (match held with
                  | .waiting => 2#8
                  | .live => 3#8
                  | .settled => 4#8),
                  count8 (others r i)])))
    ∧ (∀ r : Reference, s.Serves q (.lookup r) → s.IntegrityLaw → (∀ j, ¬carries r j) →
        exec .lookup s = .next (s.answering q .noSuchAccount []))
    ∧ ∀ start, s.Serves q (.survey start) → s.IntegrityLaw →
        let inUse := slots.filter fun i => start ≤ i ∧ s.lifeAt i ≠ .free
        let taken := inUse.take 8
        let resume := if 8 ≤ inUse.length then (taken.getLast?.map fun i => i.val + 1).getD 32 else 32
        exec .survey s
          = .next (s.answering q .ok ([count8 taken.length] ++ taken.flatMap s.summaryOf ++ [count8 resume]))

/-- R13, R14, R127: a READ_ACCOUNT whose record fails its check quarantines it: the held state is recorded, the word
matches again, QUARANTINED is raised, the item leaves the commit queue and is barred, and the answer is INTEGRITY
with the record as it then stands. -/
def Obligations.MismatchQuarantines : Prop :=
  ∀ (s : State) (q : Request) (h : Handle) (i : Slot) (held : Held),
    s.Serves q (.readAccount h) → s.storeTakes = true → s.resolve h = some i → s.intactAt i = false →
    s.lifeAt i = (match held with | .waiting => .waiting | .live => .live | .settled => .settled) →
    s.ru.power = .run →
    ∃ t, exec .readAccount s = .next t
      ∧ t.lifeAt i = .quarantined held ∧ t.bodyAt i = s.bodyAt i ∧ t.intactAt i = true
      ∧ (t.slotAt i).generation = (s.slotAt i).generation ∧ (t.slotAt i).counter = (s.slotAt i).counter
      ∧ (∀ j, j ≠ i → t.slotAt j = s.slotAt j) ∧ t.store.lists = s.store.lists
      ∧ t.au = { s.au with inbox := s.au.inbox ++ [.raised .store (.slot i .quarantined)] }
      ∧ t.ru = { s.ru with queue := s.ru.queue.erase (.account i), barred := s.ru.barred.set i true }
      ∧ t.Answered q .integrity (serialise i (t.slotAt i))
      ∧ (∀ n, (t.scAt n).notices = (s.scAt n).notices ++ (if s.occupant n = some i ∧ held = .live then [.quarantined] else []))
      ∧ (∀ n, { t.scAt n with notices := (s.scAt n).notices } = s.scAt n)
      ∧ t.store.openSerial = s.store.openSerial ∧ t.store.billing = s.store.billing
      ∧ t.cq = s.cq ∧ t.le = s.le ∧ t.tu = s.tu ∧ t.hl = s.hl ∧ t.pins = s.pins ∧ t.pending = s.pending

/-! ## The account life cycle -/

/-- R2, R4, R30, R31: an OPEN that passes its checks allocates the lowest FREE slot, advances its generation counter
and the open serial counter, and writes the record from the request; the account is LIVE and in the first place if
the channel has no occupant, and WAITING in the last place otherwise. -/
def Obligations.OpenWritesTheRecord : Prop :=
  ∀ (s : State) (q : Request) (a : OpenArgs) (i : Slot),
    s.Serves q (.openAccount a) → s.storeTakes = true → s.IntegrityLaw →
    s.lifeAt i = .free → (∀ j, j < i → s.lifeAt j ≠ .free) → s.store.openSerial ≠ 0xFFFFFFFF#32 →
    (∀ j, s.lifeAt j ≠ .free → s.lifeAt j ≠ .lost → (s.bodyAt j).reference ≠ a.reference) →
    (s.listAt a.channel).length < 3 → i ∉ (s.listAt a.channel).map slotOf →
    let live : Bool := (s.occupant a.channel).isNone
    let g := nextGeneration (s.slotAt i).counter
    let h : Handle := BitVec.ofNat 16 (g.toNat * 32 + i.val)
    let serial := s.store.openSerial + 1#32
    ∃ t, exec .openAccount s = .next t
      ∧ t.lifeAt i = (if live then .live else .waiting)
      ∧ (t.slotAt i).generation = g ∧ (t.slotAt i).counter = g ∧ t.intactAt i = true
      ∧ t.store.openSerial = serial ∧ t.store.billing = s.store.billing
      ∧ (t.bodyAt i).channel = count8 a.channel.val ∧ (t.bodyAt i).reference = a.reference
      ∧ (t.bodyAt i).tariff = a.tariff ∧ (t.bodyAt i).threshold = a.threshold
      ∧ (t.bodyAt i).allowance = a.allowance ∧ (t.bodyAt i).opening = a.opening
      ∧ (t.bodyAt i).balance = a.opening ∧ (t.bodyAt i).credited = 0#48 ∧ (t.bodyAt i).debited = 0#48
      ∧ (t.bodyAt i).quanta = 0#32 ∧ (t.bodyAt i).version = 0#16 ∧ (t.bodyAt i).serial = serial
      ∧ (t.bodyAt i).lastLevy = 0#16 ∧ (t.bodyAt i).vouchers = [] ∧ (t.bodyAt i).flags = 0#8
      ∧ (t.bodyAt i).closing = none
      ∧ (t.bodyAt i).emergency = (if a.allowance = 0#32 then emergencyCode .none else emergencyCode .available)
      ∧ (t.bodyAt i).credit
          = (if live then
              (if a.opening.toInt > a.threshold.toNat then creditCode .normal
               else if a.opening.toInt > 0 then creditCode .low else creditCode .exhausted)
             else 0#8)
      ∧ (∀ j, j ≠ i → t.slotAt j = s.slotAt j)
      ∧ t.store.lists
          = s.store.lists.set a.channel (if live then h :: s.listAt a.channel else s.listAt a.channel ++ [h])
      ∧ t.au = { s.au with
          inbox := s.au.inbox ++ (if live then entryMessages i 0#8 (t.bodyAt i).credit else []) }
      ∧ (∃ dirtied : List (Block × Item),
          dirtied.Perm [(.store, .account i), (.store, .settings)]
            ∧ t.ru = { s.ru with inbox := s.ru.inbox ++ dirtied })
      ∧ HandOffFrame s t ∧ FieldFrame s t
      ∧ t.Answered q .ok (le16 h ++ [lifeCode (t.lifeAt i)] ++ le32 serial ++ [(t.bodyAt i).credit])

/-- R29: the refusals of OPEN in their order, over records that all pass their checks; a refused OPEN allocates
nothing and changes no record. -/
def Obligations.OpenRefusedInOrder : Prop :=
  ∀ (s : State) (q : Request) (a : OpenArgs),
    s.Serves q (.openAccount a) → s.storeTakes = true → s.IntegrityLaw →
    let full := ∀ j, s.lifeAt j ≠ .free
    let last := s.store.openSerial = 0xFFFFFFFF#32
    let taken := ∃ j, s.lifeAt j ≠ .free ∧ s.lifeAt j ≠ .lost ∧ (s.bodyAt j).reference = a.reference
    (full → exec .openAccount s = .next (s.answering q .tableFull []))
      ∧ (¬full → last → exec .openAccount s = .next (s.answering q .limitExceeded []))
      ∧ (¬full → ¬last → taken → exec .openAccount s = .next (s.answering q .duplicateReference []))
      ∧ (¬full → ¬last → ¬taken → 3 ≤ (s.listAt a.channel).length →
          exec .openAccount s = .next (s.answering q .channelFull []))

/-- R26, R27, R32, R33: a CLOSE that is taken settles the account: an occupant with a waiting successor, which is promoted
in the same claim with its emergency status kept (log 34); an occupant without one, whose channel falls vacant; and a
waiting account, which leaves its place behind the occupant.  And the refusals of R32 in their order.  The order of the
messages to one block is the model's choice (log 7); that the record of a QUARANTINED or LOST account is checked is
read from R12 (log 15). -/
def Obligations.CloseSettlesTheAccount : Prop :=
  (∀ (s : State) (q : Request) (expected : Option (BitVec 16)) (n : Channel) (i j : Slot) (rest : List Handle),
    let h := s.handleAt i
    let b := s.bodyAt i
    let promoted := { s.bodyAt j with credit := ((s.bodyAt j).evaluated false).credit }
    s.Serves q (.close h expected) → s.storeTakes = true → s.resolve h = some i → s.IntegrityLaw →
    s.lifeAt i = .live → s.lifeAt j = .waiting → (expected = none ∨ expected = some b.version) →
    s.listAt n = h :: s.handleAt j :: rest → (∀ m, m ≠ n → h ∉ s.listAt m) →
    (∀ m, m ≠ n → s.occupant m ≠ some i ∧ s.occupant m ≠ some j) →
    (∀ m hd tl, m ≠ n → s.listAt m = hd :: tl → slotOf hd ≠ j) →
    ∃ t, exec .close s = .next t
      ∧ t.lifeAt i = .settled
      ∧ t.bodyAt i = { b with
          closing := some { balance := b.balance, reason := 1#8 }, credit := 0#8, version := b.version + 1#16 }
      ∧ t.lifeAt j = .live ∧ t.bodyAt j = promoted
      ∧ t.intactAt i = true ∧ t.intactAt j = true
      ∧ (∀ k, k ≠ i → k ≠ j → t.slotAt k = s.slotAt k)
      ∧ t.store.lists = s.store.lists.set n (s.handleAt j :: rest)
      ∧ t.store.openSerial = s.store.openSerial
      ∧ t.au = { s.au with
          inbox := s.au.inbox ++ entryMessages j 0#8 promoted.credit ++ [.raised .store (.slot j .promoted)] }
      ∧ t.ru = { s.ru with inbox := s.ru.inbox ++ [(.store, .account i), (.store, .account j)] }
      ∧ (t.scAt n).notices = (s.scAt n).notices
          ++ [.live (s.handleAt j) (creditOfCode promoted.credit) (emergencyOfCode promoted.emergency)]
      ∧ (∀ m, m ≠ n → t.scAt m = s.scAt m)
      ∧ t.tu = s.tu ∧ t.le = s.le ∧ t.cq = s.cq ∧ t.hl = s.hl
      ∧ t.Answered q .ok (le32 b.balance ++ le16 (b.version + 1#16) ++ le16 (s.handleAt j)))
  ∧ (∀ (s : State) (q : Request) (expected : Option (BitVec 16)) (n : Channel) (i : Slot) (first : Handle)
      (rest : List Handle),
    let h := s.handleAt i
    let b := s.bodyAt i
    let settled (t : State) : Prop :=
      t.lifeAt i = .settled
        ∧ t.bodyAt i = { b with
            closing := some { balance := b.balance, reason := 1#8 }, credit := 0#8, version := b.version + 1#16 }
        ∧ (t.slotAt i).generation = (s.slotAt i).generation ∧ t.intactAt i = true
        ∧ (∀ k, k ≠ i → t.slotAt k = s.slotAt k) ∧ t.store.openSerial = s.store.openSerial
        ∧ t.au = s.au ∧ t.ru = { s.ru with inbox := s.ru.inbox ++ [(.store, .account i)] }
        ∧ t.tu = s.tu ∧ t.le = s.le ∧ t.cq = s.cq ∧ t.hl = s.hl
        ∧ t.Answered q .ok (le32 b.balance ++ le16 (b.version + 1#16) ++ le16 0#16)
    s.Serves q (.close h expected) → s.storeTakes = true → s.resolve h = some i → s.IntegrityLaw →
    (expected = none ∨ expected = some b.version) → (∀ m, m ≠ n → h ∉ s.listAt m) →
    (s.lifeAt i = .live → s.listAt n = h :: rest →
      (∀ g ∈ rest, s.lifeAt (slotOf g) = .quarantined .waiting) → (∀ m, m ≠ n → s.occupant m ≠ some i) →
      ∃ t, exec .close s = .next t ∧ settled t
        ∧ t.store.lists = s.store.lists.set n rest
        ∧ (t.scAt n).notices = (s.scAt n).notices ++ [.vacant] ∧ (∀ m, m ≠ n → t.scAt m = s.scAt m))
    ∧ (s.lifeAt i = .waiting → s.listAt n = first :: rest → first ≠ h → h ∈ rest →
        ∃ t, exec .close s = .next t ∧ settled t
          ∧ t.store.lists = s.store.lists.set n (first :: rest.erase h) ∧ t.sc = s.sc))
  ∧ ∀ (s : State) (q : Request) (h : Handle) (expected : Option (BitVec 16)) (i : Slot),
      s.Serves q (.close h expected) → s.storeTakes = true → s.resolve h = some i →
      RefusesUnfit s q i .close
        ∧ (s.intactAt i = true → s.lifeAt i = .settled → exec .close s = .next (s.answering q .wrongState []))
        ∧ (s.intactAt i = true → s.lifeAt i = .live ∨ s.lifeAt i = .waiting →
            ∀ v, expected = some v → v ≠ (s.bodyAt i).version →
              exec .close s = .next (s.answering q .staleVersion (le16 (s.bodyAt i).version)))

/-- R5, R34, R157: RELEASE of a settled account answers its balances, puts the FREE form into the slot with the
generation counter kept, dirties the item and removes the attention entry. -/
def Obligations.ReleaseFreesTheSlot : Prop :=
  ∀ (s : State) (q : Request) (h : Handle) (i : Slot),
    s.Serves q (.release h) → s.storeTakes = true → s.resolve h = some i → s.lifeAt i = .settled →
    s.intactAt i = true →
    ∃ t, exec .release s = .next t
      ∧ t.lifeAt i = .free ∧ (t.slotAt i).generation = 0#11 ∧ (t.slotAt i).counter = (s.slotAt i).counter
      ∧ t.bodyAt i = Body.absent ∧ t.intactAt i = true ∧ t.resolve h = none
      ∧ (∀ j, j ≠ i → t.slotAt j = s.slotAt j) ∧ t.store.lists = s.store.lists
      ∧ t.store.openSerial = s.store.openSerial
      ∧ t.au = { s.au with inbox := s.au.inbox ++ [.removed i] }
      ∧ t.ru = { s.ru with inbox := s.ru.inbox ++ [(.store, .account i)] }
      ∧ t.sc = s.sc ∧ t.cq = s.cq ∧ t.le = s.le ∧ t.tu = s.tu ∧ t.hl = s.hl
      ∧ t.Answered q .ok (le32 (s.bodyAt i).balance
          ++ le32 (match (s.bodyAt i).closing with
            | none => 0#32
            | some c => c.balance))

/-- R35 to R37, R127: a REWRITE that passes the nine checks writes the record, whatever the life state, the held state
and the target: the fields of the request, an opening balance that restores the conservation law, the vouchers without
zeros and later repetitions, the emergency status and the credit state by the resulting life state, and the payload.
A record that leaves quarantine has its bar lifted.  While the account leaves no channel that it occupies, no other
slot changes.  And the refusals of R35 in their order. -/
def Obligations.RewriteWritesTheRecord : Prop :=
  ∀ (s : State) (q : Request) (a : RewriteArgs) (i : Slot),
    let b := s.bodyAt i
    let opening := b.balance.toInt - b.credited.toNat + b.debited.toNat
    let quarantined := ∃ held, s.lifeAt i = .quarantined held
    let account := s.lifeAt i = .waiting ∨ s.lifeAt i = .live ∨ s.lifeAt i = .settled
    let other := ∃ j, s.occupant a.channel = some j ∧ j ≠ i
    (RewritePasses s q a i → s.ListedOnce i →
      ∃ t, exec .rewrite s = .next t
        ∧ (a.target = .settled → t.lifeAt i = .settled)
        ∧ (a.target = .waiting → other → t.lifeAt i = .waiting)
        ∧ (a.target = .live ∨ (a.target = .waiting ∧ ¬other) → t.lifeAt i = .live)
        ∧ (t.bodyAt i).channel = count8 a.channel.val ∧ (t.bodyAt i).reference = a.reference
        ∧ (t.bodyAt i).tariff = a.tariff ∧ (t.bodyAt i).threshold = a.threshold
        ∧ (t.bodyAt i).allowance = a.allowance ∧ (t.bodyAt i).opening.toInt = opening
        ∧ (t.bodyAt i).Conserved ∧ (t.bodyAt i).saturated = false
        ∧ (t.bodyAt i).balance = b.balance ∧ (t.bodyAt i).credited = b.credited
        ∧ (t.bodyAt i).debited = b.debited ∧ (t.bodyAt i).quanta = b.quanta ∧ (t.bodyAt i).serial = b.serial
        ∧ (t.bodyAt i).lastLevy = b.lastLevy ∧ (t.bodyAt i).version = b.version + 1#16
        ∧ (t.bodyAt i).vouchers = (b.vouchers.filter (· != 0#32)).eraseDups
        ∧ (a.target = .settled → s.lifeAt i = .settled ∨ s.lifeAt i = .quarantined .settled →
            (t.bodyAt i).closing = b.closing)
        ∧ (a.target ≠ .settled ∨ (s.lifeAt i ≠ .settled ∧ s.lifeAt i ≠ .quarantined .settled) →
            (t.bodyAt i).closing = none)
        ∧ (let kept :=
            if a.allowance = 0#32 then emergencyCode .none
            else if emergencyOfCode b.emergency = none ∨ b.emergency = emergencyCode .none then
              emergencyCode .available
            else if b.emergency = emergencyCode .inUse ∧ t.lifeAt i ≠ .live then emergencyCode .available
            else b.emergency
          (t.lifeAt i = .live → t.bodyAt i = { t.bodyAt i with emergency := kept }.evaluated false)
            ∧ (t.lifeAt i ≠ .live → (t.bodyAt i).emergency = kept ∧ (t.bodyAt i).credit = 0#8))
        ∧ (t.slotAt i).generation = (s.slotAt i).generation ∧ (t.slotAt i).counter = (s.slotAt i).counter
        ∧ t.intactAt i = true ∧ t.store.openSerial = s.store.openSerial
        ∧ (quarantined → t.ru.barred = s.ru.barred.set i false)
        ∧ (¬quarantined → t.ru.barred = s.ru.barred ∧ t.store.lists = s.store.lists)
        ∧ (.store, .account i) ∈ t.ru.inbox
        ∧ ((∀ m, s.occupant m = some i → m = a.channel ∧ a.target ≠ .settled) →
            (∀ j, j ≠ i → t.slotAt j = s.slotAt j)
              ∧ t.ru = { s.ru with barred := t.ru.barred, inbox := s.ru.inbox ++ [(.store, .account i)] }
              ∧ t.au = { s.au with
                  inbox := s.au.inbox
                    ++ (if t.lifeAt i = .live then
                          entryMessages i
                            (if s.lifeAt i = .live ∨ s.lifeAt i = .quarantined .live then b.credit else 0#8)
                            (t.bodyAt i).credit
                        else []) })
        ∧ (∀ n, t.scAt n = { s.scAt n with
            notices := (s.scAt n).notices ++ (if t.viewOf n = s.viewOf n then [] else [t.viewOf n]) })
        ∧ t.cq = s.cq ∧ t.le = s.le ∧ t.tu = s.tu ∧ t.hl = s.hl
        ∧ t.Answered q .ok ([lifeCode (t.lifeAt i)] ++ le16 (b.version + 1#16) ++ le32 (t.bodyAt i).opening
            ++ [(t.bodyAt i).credit]))
    ∧ (s.Serves q (.rewrite a) → s.storeTakes = true → s.resolve a.handle = some i →
        let current := a.expected = none ∨ a.expected = some b.version
        let place := quarantined ∨ (s.lifeAt i = a.target.life ∧ b.channel = count8 a.channel.val)
        let unique := ∀ j, j ≠ i → s.lifeAt j ≠ .free → s.lifeAt j ≠ .lost → (s.bodyAt j).reference ≠ a.reference
        let room := a.target = .settled ∨ a.handle ∈ s.listAt a.channel ∨ (s.listAt a.channel).length < 3
        (s.lifeAt i = .lost → exec .rewrite s = .next (s.answering q .wrongState []))
        ∧ (account → s.intactAt i = false →
            ∃ t held, exec .rewrite s = .next t ∧ t.lifeAt i = .quarantined held ∧ t.bodyAt i = b
              ∧ t.intactAt i = true ∧ (∀ j, j ≠ i → t.slotAt j = s.slotAt j) ∧ t.store.lists = s.store.lists
              ∧ t.Answered q .integrity [])
        ∧ (quarantined → s.intactAt i = false → ∀ v, a.expected = some v → v ≠ b.version →
            ∃ t, exec .rewrite s = .next t ∧ t.lifeAt i = s.lifeAt i ∧ t.bodyAt i = b ∧ t.intactAt i = true
              ∧ (∀ j, j ≠ i → t.slotAt j = s.slotAt j) ∧ t.store.lists = s.store.lists ∧ t.ru = s.ru
              ∧ t.au = { s.au with inbox := s.au.inbox ++ [.raised .store (.slot i .quarantined)] }
              ∧ t.Answered q .staleVersion (le16 b.version))
        ∧ (account ∨ quarantined → s.intactAt i = true → ∀ v, a.expected = some v → v ≠ b.version →
            exec .rewrite s = .next (s.answering q .staleVersion (le16 b.version)))
        ∧ (account → s.intactAt i = true → current → ¬place → exec .rewrite s = .next (s.answering q .wrongState []))
        ∧ (s.IntegrityLaw → account ∨ quarantined → current → place →
            (¬unique → exec .rewrite s = .next (s.answering q .duplicateReference []))
            ∧ (unique → a.target = .live → other → exec .rewrite s = .next (s.answering q .wrongState []))
            ∧ (unique → (a.target = .live → ¬other) →
                (¬room → exec .rewrite s = .next (s.answering q .channelFull []))
                ∧ (room →
                    (b.balance.toInt < -2000000000 ∨ 2000000000 < b.balance.toInt ∨ opening < -100000000
                      ∨ 100000000 < opening) →
                    exec .rewrite s = .next (s.answering q .limitExceeded [])))))

/-- R16, R24, R26, R37: where a REWRITE places a quarantined account.  A quarantined occupant rewritten to LIVE on its own
channel stays in the first place, and its controller is told that the occupant is LIVE.  An account that occupies no
channel leaves its list and, unless it is settled, joins the requested channel: in the first place where that has no
occupant, and else behind the occupant by open serial.  A quarantined occupant that is settled or moved to another
channel leaves its channel to the waiting successor, which is promoted with its emergency status kept (log 34); the
order of the messages to one block is the model's choice (log 7), and so is the place among equal or unordered serials
(log 40). -/
def Obligations.RewritePlacesTheAccount : Prop :=
  ∀ (s : State) (q : Request) (a : RewriteArgs) (i : Slot),
    let b := s.bodyAt i
    let joined (others list : List Handle) : Prop :=
      (s.occupant a.channel = none → list = a.handle :: others)
        ∧ ∀ first rest j, s.occupant a.channel = some j → j ≠ i → others = first :: rest →
            ∃ before after, before ++ after = rest ∧ list = first :: before ++ a.handle :: after
              ∧ (∀ g ∈ before, (s.bodyAt (slotOf g)).serial ≤ b.serial)
              ∧ ∀ g tl, after = g :: tl → b.serial < (s.bodyAt (slotOf g)).serial
    RewritePasses s q a i →
    (∀ rest, s.lifeAt i = .quarantined .live → a.target = .live →
      s.listAt a.channel = a.handle :: rest → (∀ m, m ≠ a.channel → a.handle ∉ s.listAt m) →
      (∀ m hd tl, m ≠ a.channel → s.listAt m = hd :: tl → slotOf hd ≠ i) →
      ∃ t, exec .rewrite s = .next t
        ∧ t.lifeAt i = .live ∧ (t.bodyAt i).Conserved ∧ (t.bodyAt i).balance = b.balance
        ∧ (t.bodyAt i).version = b.version + 1#16 ∧ t.intactAt i = true
        ∧ (∀ j, j ≠ i → t.slotAt j = s.slotAt j) ∧ t.store.lists = s.store.lists
        ∧ (t.scAt a.channel).notices = (s.scAt a.channel).notices
            ++ [.live a.handle (creditOfCode (t.bodyAt i).credit) (emergencyOfCode (t.bodyAt i).emergency)]
        ∧ (∀ m, m ≠ a.channel → t.scAt m = s.scAt m)
        ∧ t.au = { s.au with inbox := s.au.inbox ++ entryMessages i b.credit (t.bodyAt i).credit }
        ∧ t.ru.barred = s.ru.barred.set i false
        ∧ t.ru.inbox = s.ru.inbox ++ [(.store, .account i)] ∧ t.ru.queue = s.ru.queue
        ∧ t.Answered q .ok ([lifeCode .live] ++ le16 (b.version + 1#16) ++ le32 (t.bodyAt i).opening
            ++ [(t.bodyAt i).credit]))
    ∧ (∀ held, s.lifeAt i = .quarantined held → s.ListedOnce i → (∀ m, s.occupant m ≠ some i) →
        ∃ t, exec .rewrite s = .next t
          ∧ (a.target = .settled → ∀ m, t.listAt m = (s.listAt m).erase a.handle)
          ∧ (a.target ≠ .settled →
              joined ((s.listAt a.channel).erase a.handle) (t.listAt a.channel)
                ∧ ∀ m, m ≠ a.channel → t.listAt m = (s.listAt m).erase a.handle))
    ∧ ∀ (n : Channel) (j : Slot) (rest : List Handle),
        let promoted := { s.bodyAt j with credit := ((s.bodyAt j).evaluated false).credit }
        s.lifeAt i = .quarantined .live → s.lifeAt j = .waiting → s.ListedOnce i → s.ListedOnce j →
        s.listAt n = a.handle :: s.handleAt j :: rest → a.target = .settled ∨ a.channel ≠ n →
        ∃ t, exec .rewrite s = .next t
          ∧ t.lifeAt j = .live ∧ t.bodyAt j = promoted ∧ t.intactAt j = true
          ∧ (∀ k, k ≠ i → k ≠ j → t.slotAt k = s.slotAt k)
          ∧ t.listAt n = s.handleAt j :: rest
          ∧ (a.target ≠ .settled → joined (s.listAt a.channel) (t.listAt a.channel))
          ∧ (∀ m, m ≠ n → a.target = .settled ∨ m ≠ a.channel → t.listAt m = s.listAt m)
          ∧ (t.scAt n).notices = (s.scAt n).notices
              ++ [.live (s.handleAt j) (creditOfCode promoted.credit) (emergencyOfCode promoted.emergency)]
          ∧ t.au = { s.au with
              inbox := s.au.inbox
                ++ (if t.lifeAt i = .live then entryMessages i b.credit (t.bodyAt i).credit else [])
                ++ entryMessages j 0#8 promoted.credit ++ [.raised .store (.slot j .promoted)] }
          ∧ t.ru = { s.ru with
              barred := s.ru.barred.set i false
              inbox := s.ru.inbox ++ [(.store, .account i), (.store, .account j)] }

/-- R5, R15, R38, R157: a DISCARD that is taken frees the slot, lifts the bar of a quarantined account's item, dirties
the item and removes the attention entry: of a quarantined occupant without a successor, whose channel falls vacant;
of one with a waiting successor, which is promoted with its emergency status kept (log 34); of a quarantined account
that is no occupant, which leaves any list that holds it; and of a LOST account, whether its word matches or not.
An account in WAITING, LIVE or SETTLED is refused.  The order of the messages to one block is the model's choice
(logs 7, 31). -/
def Obligations.DiscardFreesTheSlot : Prop :=
  (∀ (s : State) (q : Request) (h : Handle) (i : Slot) (n : Channel),
    s.Serves q (.discard h) → s.storeTakes = true → s.resolve h = some i → s.lifeAt i = .quarantined .live →
    s.intactAt i = true → s.listAt n = [h] → (∀ m, m ≠ n → h ∉ s.listAt m) →
    (∀ m hd tl, m ≠ n → s.listAt m = hd :: tl → slotOf hd ≠ i) →
    ∃ t, exec .discard s = .next t
      ∧ t.lifeAt i = .free ∧ (t.slotAt i).generation = 0#11 ∧ (t.slotAt i).counter = (s.slotAt i).counter
      ∧ t.bodyAt i = Body.absent ∧ t.intactAt i = true ∧ t.resolve h = none
      ∧ (∀ j, j ≠ i → t.slotAt j = s.slotAt j) ∧ t.store.lists = s.store.lists.set n []
      ∧ t.au = { s.au with inbox := s.au.inbox ++ [.removed i] }
      ∧ t.ru = { s.ru with
          barred := s.ru.barred.set i false, inbox := s.ru.inbox ++ [(.store, .account i)] }
      ∧ (t.scAt n).notices = (s.scAt n).notices ++ [.vacant] ∧ (∀ m, m ≠ n → t.scAt m = s.scAt m)
      ∧ t.cq = s.cq ∧ t.le = s.le ∧ t.tu = s.tu ∧ t.hl = s.hl
      ∧ t.Answered q .ok [])
  ∧ ∀ (s : State) (q : Request) (h : Handle) (i : Slot),
      let freed (t : State) : Prop :=
        t.lifeAt i = .free ∧ (t.slotAt i).generation = 0#11 ∧ (t.slotAt i).counter = (s.slotAt i).counter
          ∧ t.bodyAt i = Body.absent ∧ t.intactAt i = true ∧ t.resolve h = none
          ∧ t.store.openSerial = s.store.openSerial
          ∧ t.cq = s.cq ∧ t.le = s.le ∧ t.tu = s.tu ∧ t.hl = s.hl ∧ t.Answered q .ok []
      s.Serves q (.discard h) → s.storeTakes = true → s.resolve h = some i →
      (∀ (n : Channel) (j : Slot) (rest : List Handle),
        let promoted := { s.bodyAt j with credit := ((s.bodyAt j).evaluated false).credit }
        s.IntegrityLaw → s.lifeAt i = .quarantined .live → s.lifeAt j = .waiting →
        s.listAt n = h :: s.handleAt j :: rest → (∀ m, m ≠ n → h ∉ s.listAt m) →
        (∀ m hd tl, m ≠ n → s.listAt m = hd :: tl → slotOf hd ≠ i ∧ slotOf hd ≠ j) →
        ∃ t, exec .discard s = .next t ∧ freed t
          ∧ t.lifeAt j = .live ∧ t.bodyAt j = promoted ∧ t.intactAt j = true
          ∧ (∀ k, k ≠ i → k ≠ j → t.slotAt k = s.slotAt k)
          ∧ t.store.lists = s.store.lists.set n (s.handleAt j :: rest)
          ∧ t.au = { s.au with
              inbox := s.au.inbox ++ entryMessages j 0#8 promoted.credit
                ++ [.raised .store (.slot j .promoted), .removed i] }
          ∧ t.ru = { s.ru with
              barred := s.ru.barred.set i false
              inbox := s.ru.inbox ++ [(.store, .account j), (.store, .account i)] }
          ∧ (t.scAt n).notices = (s.scAt n).notices
              ++ [.live (s.handleAt j) (creditOfCode promoted.credit) (emergencyOfCode promoted.emergency)]
          ∧ (∀ m, m ≠ n → t.scAt m = s.scAt m))
      ∧ (∀ held, s.lifeAt i = .quarantined held → held ≠ .live → s.intactAt i = true →
          (∀ m m', h ∈ s.listAt m → h ∈ s.listAt m' → m = m') → (∀ m tl, s.listAt m ≠ h :: tl) →
          ∃ t, exec .discard s = .next t ∧ freed t
            ∧ (∀ j, j ≠ i → t.slotAt j = s.slotAt j) ∧ (∀ m, t.listAt m = (s.listAt m).erase h)
            ∧ t.au = { s.au with inbox := s.au.inbox ++ [.removed i] }
            ∧ t.ru = { s.ru with
                barred := s.ru.barred.set i false, inbox := s.ru.inbox ++ [(.store, .account i)] }
            ∧ t.sc = s.sc)
      ∧ (s.lifeAt i = .lost → (∀ m, h ∉ s.listAt m) →
          ∃ t, exec .discard s = .next t ∧ freed t
            ∧ (∀ j, j ≠ i → t.slotAt j = s.slotAt j) ∧ t.store.lists = s.store.lists
            ∧ t.au = { s.au with inbox := s.au.inbox ++ [.removed i] }
            ∧ t.ru = { s.ru with inbox := s.ru.inbox ++ [(.store, .account i)] } ∧ t.sc = s.sc)
      ∧ (s.lifeAt i = .waiting ∨ s.lifeAt i = .live ∨ s.lifeAt i = .settled →
          (s.intactAt i = true → exec .discard s = .next (s.answering q .wrongState []))
          ∧ (s.intactAt i = false →
              ∃ t held, exec .discard s = .next t ∧ t.lifeAt i = .quarantined held ∧ t.bodyAt i = s.bodyAt i
                ∧ (∀ j, j ≠ i → t.slotAt j = s.slotAt j) ∧ t.Answered q .integrity []))

/-! ## Credit -/

/-- R49, R50: the two tables of the credit evaluation, for a record whose emergency byte holds a status; what is
found is written into the record of a LIVE account with its integrity word. -/
def Obligations.EvaluationFollowsTheTables : Prop :=
  ∀ (b : Body) (rising : Bool) (found : Emergency),
    b.emergency = emergencyCode found →
    let balance := b.balance.toInt
    let allowance : Int := b.allowance.toNat
    let threshold : Int := b.threshold.toNat
    let x := b.evaluated rising
    let plain := if balance > threshold then creditCode .normal
      else if balance > 0 then creditCode .low else creditCode .exhausted
    (found = .inUse → rising = true → balance > 0 → x.emergency = emergencyCode .available)
      ∧ (found = .inUse → ¬(rising = true ∧ balance > 0) → balance ≤ -allowance → x.emergency = emergencyCode .spent)
      ∧ (found = .inUse → ¬(rising = true ∧ balance > 0) → balance > -allowance → x.emergency = emergencyCode .inUse)
      ∧ (found = .spent → balance > 0 → x.emergency = emergencyCode .available)
      ∧ (found = .spent → balance ≤ 0 → x.emergency = emergencyCode .spent)
      ∧ (found = .available → x.emergency = emergencyCode .available)
      ∧ (found = .none → x.emergency = emergencyCode .none)
      ∧ (x.emergency = emergencyCode .inUse → balance ≤ 0 → x.credit = creditCode .emergency)
      ∧ (x.emergency = emergencyCode .inUse → balance > 0 → x.credit = plain)
      ∧ (x.emergency = emergencyCode .spent → balance ≤ 0 → x.credit = creditCode .exhausted)
      ∧ (x.emergency = emergencyCode .available ∨ x.emergency = emergencyCode .none → x.credit = plain)
      ∧ { x with emergency := b.emergency, credit := b.credit } = b
      ∧ ∀ (s : State) (i : Slot), s.lifeAt i = .live →
          (s.conclude i b rising).bodyAt i = x ∧ (s.conclude i b rising).intactAt i = true

/-- R46: the arithmetic of a charge: totals, clamps and SATURATED.  That a restored balance above BAL_MAX may stay above
it, and that one below BAL_MIN is clamped by a charge of 0 too, is the model's reading (logs 36, 38). -/
def Obligations.ChargeArithmetic : Prop :=
  ∀ (b : Body) (amount quanta : Nat), amount ≤ 4294836225 →
    let x := b.charged amount quanta
    let clamped : Bool := b.debited.toNat + amount > 2 ^ 48 - 1 ∨ b.balance.toInt - amount < -2000000000
    x.debited.toNat = min (b.debited.toNat + amount) (2 ^ 48 - 1)
      ∧ x.balance.toInt = max (b.balance.toInt - amount) (-2000000000)
      ∧ x.quanta.toNat = (b.quanta.toNat + quanta) % 2 ^ 32
      ∧ x.saturated = (b.saturated || clamped)
      ∧ x.flags &&& 0xFE#8 = b.flags &&& 0xFE#8
      ∧ x.version = b.version
      ∧ (amount = 0 → -2000000000 ≤ b.balance.toInt → x.balance = b.balance ∧ x.debited = b.debited)
      ∧ { x with debited := b.debited, balance := b.balance, quanta := b.quanta, flags := b.flags } = b

/-- R51, R56, R57, R58, R65: a TOP_UP that passes its checks raises balance and credited total, puts the voucher at the
head of the list, advances the version, and ends with a rising evaluation of a LIVE account, or the rising status
step of a WAITING one. -/
def Obligations.TopUpCredits : Prop :=
  ∀ (s : State) (q : Request) (a : TopUpArgs) (i : Slot),
    let b := s.bodyAt i
    let moved := { b with
      balance := BitVec.ofInt 32 (b.balance.toInt + a.amount.toNat)
      credited := BitVec.ofNat 48 (b.credited.toNat + a.amount.toNat)
      vouchers := (a.voucher :: b.vouchers).take 4
      version := b.version + 1#16 }
    s.Serves q (.topUp a) → s.storeTakes = true → s.resolve a.handle = some i → s.intactAt i = true →
    (s.lifeAt i = .live ∨ s.lifeAt i = .waiting) → a.voucher ∉ b.vouchers →
    (a.expected = none ∨ a.expected = some b.version) →
    -2000000000 ≤ b.balance.toInt + a.amount.toNat → b.balance.toInt + a.amount.toNat ≤ 2000000000 →
    b.credited.toNat + a.amount.toNat ≤ 2 ^ 48 - 1 →
    ∃ t, exec .topUp s = .next t
      ∧ t.bodyAt i = (if s.lifeAt i = .live then moved.evaluated true else moved.stepped true)
      ∧ StoreFrame s t i ∧ t.store.billing = s.store.billing ∧ HandOffFrame s t ∧ FieldFrame s t
      ∧ t.ru.inbox = s.ru.inbox ++ [(.store, .account i)]
      ∧ t.au.inbox
          = s.au.inbox ++ (if s.lifeAt i = .live then entryMessages i b.credit (t.bodyAt i).credit else [])
      ∧ t.Answered q .ok (le32 moved.balance ++ le16 moved.version
          ++ [if s.lifeAt i = .live then (t.bodyAt i).credit else 0#8, (t.bodyAt i).emergency])

/-- R12, R56, R65: the refusals of TOP_UP in their order, with their payloads; none of them changes a record that passes
its check.  That the record of a QUARANTINED or LOST account is checked is read from R12 (log 15). -/
def Obligations.TopUpRefusedInOrder : Prop :=
  ∀ (s : State) (q : Request) (a : TopUpArgs),
    s.Serves q (.topUp a) → s.storeTakes = true →
    (s.resolve a.handle = none → exec .topUp s = .next (s.answering q .noSuchAccount []))
      ∧ ∀ i, s.resolve a.handle = some i →
          let b := s.bodyAt i
          let open_ := s.lifeAt i = .live ∨ s.lifeAt i = .waiting
          RefusesUnfit s q i .topUp
            ∧ (s.intactAt i = true → s.lifeAt i = .settled → exec .topUp s = .next (s.answering q .wrongState []))
            ∧ (s.intactAt i = true → open_ → a.voucher ∈ b.vouchers →
                exec .topUp s = .next (s.answering q .duplicateVoucher (le32 b.balance ++ le16 b.version)))
            ∧ (s.intactAt i = true → open_ → a.voucher ∉ b.vouchers →
                (∀ v, a.expected = some v → v ≠ b.version →
                  exec .topUp s = .next (s.answering q .staleVersion (le16 b.version)))
                ∧ ((a.expected = none ∨ a.expected = some b.version) →
                    (b.balance.toInt + a.amount.toNat > 2000000000
                      ∨ b.balance.toInt + a.amount.toNat < -2000000000
                      ∨ b.credited.toNat + a.amount.toNat > 2 ^ 48 - 1) →
                    exec .topUp s = .next (s.answering q .limitExceeded [])))

/-- R51, R59: an ADJUST that passes its checks moves the balance and the total of its sign, advances the version, and
ends with the evaluation of a LIVE account or the status step of a WAITING one, rising for a positive amount.  And
the refusals in their order, with the payload of STALE_VERSION; that the record of a QUARANTINED or LOST account is
checked is read from R12 (log 15). -/
def Obligations.AdjustMovesTheBalance : Prop :=
  ∀ (s : State) (q : Request) (a : AdjustArgs) (i : Slot),
    let b := s.bodyAt i
    let x := a.amount.toInt
    let rising : Bool := 0 < x
    let moved := { b with
      balance := BitVec.ofInt 32 (b.balance.toInt + x)
      credited := BitVec.ofInt 48 (b.credited.toNat + max x 0)
      debited := BitVec.ofInt 48 (b.debited.toNat + max (-x) 0)
      version := b.version + 1#16 }
    let open_ := s.lifeAt i = .live ∨ s.lifeAt i = .waiting
    let fits := -2000000000 ≤ b.balance.toInt + x ∧ b.balance.toInt + x ≤ 2000000000
      ∧ b.credited.toNat + max x 0 ≤ 2 ^ 48 - 1 ∧ b.debited.toNat + max (-x) 0 ≤ 2 ^ 48 - 1
    s.Serves q (.adjust a) → s.storeTakes = true → s.resolve a.handle = some i →
    (s.intactAt i = true → open_ → a.expected = b.version → fits →
      ∃ t, exec .adjust s = .next t
        ∧ t.bodyAt i = (if s.lifeAt i = .live then moved.evaluated rising else moved.stepped rising)
        ∧ StoreFrame s t i ∧ t.store.billing = s.store.billing ∧ HandOffFrame s t ∧ FieldFrame s t
        ∧ t.ru.inbox = s.ru.inbox ++ [(.store, .account i)]
        ∧ t.au.inbox
            = s.au.inbox ++ (if s.lifeAt i = .live then entryMessages i b.credit (t.bodyAt i).credit else [])
        ∧ t.Answered q .ok (le32 moved.balance ++ le16 moved.version
            ++ [if s.lifeAt i = .live then (t.bodyAt i).credit else 0#8, (t.bodyAt i).emergency]))
    ∧ RefusesUnfit s q i .adjust
    ∧ (s.intactAt i = true → s.lifeAt i = .settled → exec .adjust s = .next (s.answering q .wrongState []))
    ∧ (s.intactAt i = true → open_ → a.expected ≠ b.version →
        exec .adjust s = .next (s.answering q .staleVersion (le16 b.version)))
    ∧ (s.intactAt i = true → open_ → a.expected = b.version → x ≠ 0 → ¬fits →
        exec .adjust s = .next (s.answering q .limitExceeded []))

/-- R51, R60, R61: a SET_LIMITS that passes its checks writes tariff, threshold and allowance, sets the emergency
status from the old and new allowances, advances the version, and evaluates without rising; what becomes of a status
byte that holds no code is the model's choice (log 9).  And the refusals in their order, with the payload of STALE_VERSION; that the
record of a QUARANTINED or LOST account is checked is read from R12 (log 15). -/
def Obligations.SetLimitsWrites : Prop :=
  ∀ (s : State) (q : Request) (a : LimitsArgs) (i : Slot),
    let b := s.bodyAt i
    let limited := { b with
      tariff := a.tariff, threshold := a.threshold, allowance := a.allowance
      emergency :=
        if a.allowance = 0#32 then emergencyCode .none
        else if b.emergency = emergencyCode .none then emergencyCode .available else b.emergency
      version := b.version + 1#16 }
    let open_ := s.lifeAt i = .live ∨ s.lifeAt i = .waiting
    s.Serves q (.setLimits a) → s.storeTakes = true → s.resolve a.handle = some i →
    (s.intactAt i = true → open_ → (a.expected = none ∨ a.expected = some b.version) →
      ∃ t, exec .setLimits s = .next t
        ∧ t.bodyAt i = (if s.lifeAt i = .live then limited.evaluated false else limited.stepped false)
        ∧ StoreFrame s t i ∧ t.store.billing = s.store.billing ∧ HandOffFrame s t ∧ FieldFrame s t
        ∧ t.ru.inbox = s.ru.inbox ++ [(.store, .account i)]
        ∧ t.au.inbox
            = s.au.inbox ++ (if s.lifeAt i = .live then entryMessages i b.credit (t.bodyAt i).credit else [])
        ∧ t.Answered q .ok (le16 limited.version
            ++ [if s.lifeAt i = .live then (t.bodyAt i).credit else 0#8, (t.bodyAt i).emergency]))
    ∧ RefusesUnfit s q i .setLimits
    ∧ (s.intactAt i = true → s.lifeAt i = .settled → exec .setLimits s = .next (s.answering q .wrongState []))
    ∧ (s.intactAt i = true → open_ → ∀ v, a.expected = some v → v ≠ b.version →
        exec .setLimits s = .next (s.answering q .staleVersion (le16 b.version)))

/-- R47, R52: a quantum debit of a LIVE occupant that passes its check charges the price of its tariff in the current
band of the active bank with one quantum counted; without a LIVE occupant it is refused and changes no record, and
an occupant that fails its check is quarantined and the debit refused.  What a charge makes of a restored balance
outside its bounds is the model's reading (logs 36, 38). -/
def Obligations.QuantumDebitCharges : Prop :=
  ∀ (s : State) (n : Channel),
    let q := s.cqAt n
    let returned (r : DebitResult) := s.cq.set n { q with debits := q.debits - 1, results := q.results ++ [r] }
    s.storeTakes = true → 0 < q.debits →
    (∀ (i : Slot) (tariff : Tariff),
      let b := s.bodyAt i
      let x := b.charged (s.tu.active.prices[tariff][s.tu.band]).toNat 1
      s.occupant n = some i → s.lifeAt i = .live → s.intactAt i = true → b.tariff = count8 tariff.val →
      ∃ t, exec (.quantumDebit n) s = .next t
        ∧ t.bodyAt i = x.evaluated false ∧ t.cq = returned .taken
        ∧ StoreFrame s t i ∧ t.store.billing = s.store.billing ∧ HandOffFrame s t
        ∧ t.le = s.le ∧ t.re = s.re ∧ (∀ m, (t.scAt m).engage = (s.scAt m).engage)
        ∧ t.ru.inbox = s.ru.inbox ++ [(.store, .account i)]
        ∧ ∃ raised : List AttentionMessage,
            raised.Perm (entryMessages i b.credit (t.bodyAt i).credit
              ++ (if x.saturated = true ∧ b.saturated = false then [.raised .store (.slot i .saturated)] else []))
            ∧ t.au.inbox = s.au.inbox ++ raised)
      ∧ ((∀ i, s.occupant n = some i → s.lifeAt i ≠ .live) →
          exec (.quantumDebit n) s = .next { s with cq := returned .refused })
      ∧ ∀ i, s.occupant n = some i → s.lifeAt i = .live → s.intactAt i = false →
          ∃ t, exec (.quantumDebit n) s = .next t
            ∧ t.lifeAt i = .quarantined .live ∧ t.bodyAt i = s.bodyAt i ∧ t.cq = returned .refused
            ∧ (∀ j, j ≠ i → t.slotAt j = s.slotAt j) ∧ t.store.lists = s.store.lists

/-- R47, R51, R54, R55: an emergency engage claim for the occupant, LIVE, intact, with an allowance, status AVAILABLE
and in LOW or EXHAUSTED, is taken; one that names another account, a frozen or unavailable one, is declined and
changes no record; one whose record fails its check is declined and quarantines it. -/
def Obligations.EmergencyEngaged : Prop :=
  ∀ (s : State) (n : Channel) (e : Engage),
    let answered (r : EngageResult) := { s.scAt n with engage := some { e with answer := some r } }
    s.storeTakes = true → (s.scAt n).engage = some e → e.answer = none →
    (∀ i,
      let b := s.bodyAt i
      s.resolve e.handle = some i → s.occupant n = some i → s.lifeAt i = .live → s.intactAt i = true →
      b.allowance ≠ 0#32 → b.emergency = emergencyCode .available →
      (b.credit = creditCode .low ∨ b.credit = creditCode .exhausted) →
      ∃ t, exec (.emergencyEngage n) s = .next t
        ∧ t.bodyAt i = Body.evaluated { b with emergency := emergencyCode .inUse } false
        ∧ StoreFrame s t i ∧ t.store.billing = s.store.billing ∧ HandOffFrame s t
        ∧ t.cq = s.cq ∧ t.le = s.le ∧ t.re = s.re
        ∧ (t.scAt n).engage = some { e with
            answer := some (.taken (creditOfCode (t.bodyAt i).credit) (emergencyOfCode (t.bodyAt i).emergency)) }
        ∧ (∀ m, m ≠ n → (t.scAt m).engage = (s.scAt m).engage)
        ∧ t.ru.inbox = s.ru.inbox ++ [(.store, .account i)]
        ∧ t.au.inbox = s.au.inbox ++ entryMessages i b.credit (t.bodyAt i).credit)
      ∧ ((∀ i, s.resolve e.handle = some i → s.occupant n ≠ some i ∨ s.lifeAt i ≠ .live) →
          exec (.emergencyEngage n) s = .next { s with sc := s.sc.set n (answered .declined) })
      ∧ (∀ i,
          let b := s.bodyAt i
          s.resolve e.handle = some i → s.occupant n = some i → s.lifeAt i = .live → s.intactAt i = true →
          (b.allowance = 0#32 ∨ b.emergency ≠ emergencyCode .available
            ∨ (b.credit ≠ creditCode .low ∧ b.credit ≠ creditCode .exhausted)) →
          exec (.emergencyEngage n) s = .next { s with sc := s.sc.set n (answered .declined) })
      ∧ ∀ i, s.resolve e.handle = some i → s.occupant n = some i → s.lifeAt i = .live → s.intactAt i = false →
          ∃ t, exec (.emergencyEngage n) s = .next t
            ∧ t.lifeAt i = .quarantined .live ∧ t.bodyAt i = s.bodyAt i
            ∧ (t.scAt n).engage = some { e with answer := some .declined }
            ∧ (∀ j, j ≠ i → t.slotAt j = s.slotAt j) ∧ t.store.lists = s.store.lists

/-- R96, R97: BILL_UNBILLED asks for the channel's count after its checks, the quantizer gives it and begins afresh, and
the charge of count times price completes the request; a count of 0 charges nothing.  What a charge makes of a restored
balance outside its bounds is the model's reading (logs 36, 38). -/
def Obligations.UnbilledIsBilled : Prop :=
  ∀ (s : State) (n : Channel) (h : Handle) (i : Slot),
    let b := s.bodyAt i
    (∀ q, s.Serves q (.billUnbilled n h) → s.storeTakes = true → s.resolve h = some i → s.intactAt i = true →
      (s.lifeAt i = .live ∨ s.lifeAt i = .waiting) → h ∈ s.listAt n →
      let t := { s with store := { s.store with billing := some { channel := n, slot := i, count := none } } }
      exec .billUnbilled s = .next t ∧ t.storeTakes = false)
      ∧ (s.store.billing = some { channel := n, slot := i, count := none } →
          exec (.unbilledCountTake n) s
            = .next { s with
                cq := s.cq.set n { s.cqAt n with unbilled := 0 }
                store := { s.store with
                  billing := some { channel := n, slot := i, count := some (s.cqAt n).unbilled } } })
      ∧ ∀ (q : Request) (u : Nat) (tariff : Tariff),
          let amount := u * (s.tu.active.prices[tariff][s.tu.band]).toNat
          let x := b.charged amount u
          s.Serves q (.billUnbilled n h) →
          s.store.billing = some { channel := n, slot := i, count := some u } →
          (s.lifeAt i = .live ∨ s.lifeAt i = .waiting) → b.tariff = count8 tariff.val →
          (u = 0 →
            exec .billUnbilled s
              = .next (State.answering { s with store := { s.store with billing := none } } q .ok
                  ([0#8, 0#8, 0#8, 0#8, 0#8, 0#8] ++ le32 b.balance
                    ++ [if s.lifeAt i = .live then b.credit else 0#8, b.emergency, b.flags &&& 1#8])))
          ∧ (0 < u →
            ∃ t, exec .billUnbilled s = .next t
              ∧ t.bodyAt i = (if s.lifeAt i = .live then x.evaluated false else x.stepped false)
              ∧ StoreFrame s t i ∧ t.store.billing = none ∧ HandOffFrame s t ∧ FieldFrame s t
              ∧ t.ru.inbox = s.ru.inbox ++ [(.store, .account i)]
              ∧ (∃ raised : List AttentionMessage,
                  raised.Perm ((if s.lifeAt i = .live then entryMessages i b.credit (t.bodyAt i).credit else [])
                    ++ (if x.saturated = true ∧ b.saturated = false then [.raised .store (.slot i .saturated)] else []))
                  ∧ t.au.inbox = s.au.inbox ++ raised)
              ∧ t.Answered q .ok (count16 u ++ leBytes 4 amount ++ le32 x.balance
                  ++ [if s.lifeAt i = .live then (t.bodyAt i).credit else 0#8, (t.bodyAt i).emergency,
                    x.flags &&& 1#8]))

/-! ## Tariffs and the levy -/

/-- R68 to R71, R73: what the five requests of the Tariff Unit write, answer and dirty. -/
def Obligations.TariffRequestsAnswered : Prop :=
  ∀ (s : State) (q : Request),
    let u := s.tu
    (∀ t band price, s.Serves q (.setPrice t band price) →
      exec .setPrice s
        = .next (State.answering { s with tu := { u with
            shadow := { u.shadow with prices := u.shadow.prices.set t (u.shadow.prices[t].set band price) } }
          } q .ok (le16 u.shadow.prices[t][band] ++ le16 price)))
      ∧ (∀ t charge, s.Serves q (.setStanding t charge) →
          exec .setStanding s
            = .next (State.answering { s with tu := { u with
                shadow := { u.shadow with standing := u.shadow.standing.set t charge } }
              } q .ok (le32 u.shadow.standing[t] ++ le32 charge)))
      ∧ (∀ band, s.Serves q (.setBand band) → band ≠ u.band →
          exec .setBand s
            = .next (State.answering { s with
                tu := { u with band := band }
                ru := { s.ru with inbox := s.ru.inbox ++ [(.tariff, .settings)] }
              } q .ok [count8 u.band.val, count8 band.val]))
      ∧ (s.Serves q (.setBand u.band) →
          exec .setBand s = .next (s.answering q .ok [count8 u.band.val, count8 u.band.val]))
      ∧ (∀ active t, s.Serves q (.readTariff active t) →
          let bank := if active then u.active else u.shadow
          exec .readTariff s
            = .next (s.answering q .ok
                (le16 bank.prices[t][0] ++ le16 bank.prices[t][1] ++ le16 bank.prices[t][2] ++ le16 bank.prices[t][3]
                  ++ le32 bank.standing[t] ++ [count8 u.band.val, if u.shadow = u.active then 0#8 else 1#8])))
      ∧ (s.Serves q .commitTariffs → s.le.walk = .idle →
          exec .commitTariffs s
            = .next (State.answering { s with
                tu := { u with active := u.shadow }
                ru := { s.ru with inbox := s.ru.inbox ++ [(.tariff, .tariff)] }
              } q .ok []))
      ∧ (s.Serves q .commitTariffs → s.le.walk ≠ .idle →
          exec .commitTariffs s = .next (s.answering q .busy []))

/-- R76, R79, R80: how a walk begins, goes on with each result, is cancelled and ends. -/
def Obligations.LevyWalks : Prop :=
  ∀ (s : State) (q : Request) (w : WalkData),
    let ended (x : WalkData) (complete : Bool) : State :=
      { s with
        le := { walk := .idle, claim := none, result := none
                last := some { number := x.number, charged := x.charged, already := x.already, complete := complete } }
        au := { s.au with inbox := s.au.inbox ++ [.raised .levy (.device .levyDone)] } }
    let goesOn (x : WalkData) (next : Nat) : State :=
      { s with le := { s.le with
          walk := .walking x, claim := some { number := x.number, cursor := next }, result := none } }
    (∀ number, s.Serves q (.levy number) →
      (s.le.walk = .idle →
        exec .levy s
          = .next (State.answering { s with le := { s.le with
              walk := .walking { number := number, cursor := 0, charged := 0, already := 0 }
              claim := some { number := number, cursor := 0 } } } q .accepted (le16 number)))
      ∧ (s.le.walk ≠ .idle → exec .levy s = .next (s.answering q .busy [])))
    ∧ (s.Serves q .cancelLevy →
        (s.le.walk = .idle → exec .cancelLevy s = .next (s.answering q .wrongState []))
        ∧ (s.le.walk = .walking w →
            exec .cancelLevy s = .next (State.answering { s with le := { s.le with walk := .stopping w } } q .ok []))
        ∧ (s.le.walk = .stopping w → exec .cancelLevy s = .next (s.answering q .ok [])))
    ∧ (s.le.result = some .exhausted →
        (s.le.walk = .walking w → exec .levyResult s = .next (ended w true))
        ∧ (s.le.walk = .stopping w → exec .levyResult s = .next (ended w false)))
    ∧ ∀ (i : Slot) (r : LevyResult) (x : WalkData),
        s.le.result = some r →
        (r = .charged i ∧ x = { w with charged := w.charged + 1, cursor := i.val + 1 }
          ∨ r = .already i ∧ x = { w with already := w.already + 1, cursor := i.val + 1 }
          ∨ r = .refused i ∧ x = { w with cursor := i.val + 1 }) →
        (s.le.walk = .walking w → i.val < 31 → exec .levyResult s = .next (goesOn x (i.val + 1)))
        ∧ (s.le.walk = .walking w → i.val = 31 → exec .levyResult s = .next (ended x true))
        ∧ (s.le.walk = .stopping w → exec .levyResult s = .next (ended x false))

/-- R77: a levy claim selects the lowest LIVE slot at or above its cursor, passes one over that holds the levy's number
already, and charges another its standing charge once.  What a charge, one of 0 included, makes of a restored balance
outside its bounds is the model's reading (logs 36, 38). -/
def Obligations.LevyClaimCharges : Prop :=
  ∀ (s : State) (c : LevyClaim),
    let returned (r : LevyResult) := { s.le with claim := none, result := some r }
    s.storeTakes = true → s.le.claim = some c →
    ((∀ j : Slot, c.cursor ≤ j.val → s.lifeAt j ≠ .live) →
        exec .levyClaim s = .next { s with le := returned .exhausted })
      ∧ ∀ i : Slot, c.cursor ≤ i.val → s.lifeAt i = .live →
          (∀ j : Slot, c.cursor ≤ j.val → j < i → s.lifeAt j ≠ .live) →
          let b := s.bodyAt i
          (s.intactAt i = true → b.lastLevy = c.number →
            exec .levyClaim s = .next { s with le := returned (.already i) })
          ∧ (∀ tariff : Tariff, s.intactAt i = true → b.lastLevy ≠ c.number → b.tariff = count8 tariff.val →
              let x : Body := Body.charged { b with lastLevy := c.number } (s.tu.active.standing[tariff]).toNat 0
              ∃ t, exec .levyClaim s = .next t
                ∧ t.bodyAt i = x.evaluated false ∧ t.le = returned (.charged i)
                ∧ StoreFrame s t i ∧ t.store.billing = s.store.billing ∧ HandOffFrame s t
                ∧ t.cq = s.cq ∧ t.re = s.re ∧ (∀ m, (t.scAt m).engage = (s.scAt m).engage)
                ∧ t.ru.inbox = s.ru.inbox ++ [(.store, .account i)]
                ∧ ∃ raised : List AttentionMessage,
                    raised.Perm (entryMessages i b.credit (t.bodyAt i).credit
                      ++ (if x.saturated = true ∧ b.saturated = false then [.raised .store (.slot i .saturated)]
                          else []))
                    ∧ t.au.inbox = s.au.inbox ++ raised)
          ∧ (s.intactAt i = false →
              ∃ t, exec .levyClaim s = .next t
                ∧ t.lifeAt i = .quarantined .live ∧ t.bodyAt i = s.bodyAt i ∧ t.le = returned (.refused i)
                ∧ (∀ j, j ≠ i → t.slotAt j = s.slotAt j) ∧ t.store.lists = s.store.lists)

/-! ## Metering -/

/-- R87 to R91: the pulse recogniser, the pulse event by state and divisor, the quantum with its debit claim and
FLOW_WHILE_OPEN, the expiry of the window, and the results of debits.  That an edge shows in the sampled pin is the
model's choice (log 4). -/
def Obligations.PulsesMakeQuanta : Prop :=
  ∀ (s : State) (n : Channel),
    let q := s.cqAt n
    let put (x : Quantizer) := { s with cq := s.cq.set n x }
    let armed := { q with recogniser := .waitDeassert }
    let open_ := (s.scAt n).state = .opened ∨ (s.scAt n).state = .armed ∨ ∃ k, (s.scAt n).state = .fault k
    (∀ level, s.ru.power ≠ .restoring →
      exec (.pulseRecogniserEdge n level) s
        = .next { s with
            pins := { s.pins with pls := setWith s.pins.pls n.val level }
            cq := s.cq.set n { q with
              recogniser :=
                match q.recogniser, level with
                | .waitDeassert, true => .waitDeassert
                | .waitDeassert, false => .waitAssert
                | .waitAssert, true => .qualifying 0
                | .waitAssert, false => .waitAssert
                | .qualifying k, true => .qualifying k
                | .qualifying _, false => .waitAssert } })
      ∧ (∀ elapsed, q.recogniser = .qualifying elapsed → s.ru.power ≠ .restoring →
          (q.accumulation = .idle → 1 < q.config.divisor →
            exec (.pulseEvent n) s
              = .next (put { armed with accumulation := .accumulating 1 (q.config.window * 1000) }))
          ∧ (∀ count left, q.accumulation = .accumulating count left → count + 1 < q.config.divisor →
              exec (.pulseEvent n) s = .next (put { armed with accumulation := .accumulating (count + 1) left }))
          ∧ ((q.accumulation = .idle ∧ q.config.divisor = 1
                ∨ ∃ count left, q.accumulation = .accumulating count left ∧ count + 1 = q.config.divisor) →
              let formed := put { armed with accumulation := .idle, debits := q.debits + 1 }
              (¬open_ → exec (.pulseEvent n) s = .next formed)
              ∧ (open_ →
                  exec (.pulseEvent n) s
                    = .next { formed with au := { s.au with
                        inbox := s.au.inbox ++ [.raised (.quantizer n) (.channel n .flowWhileOpen)] } })))
      ∧ (∀ count left, q.accumulation = .accumulating count left →
          exec (.windowTimerExpiry n) s
            = .next (put { q with accumulation := .idle, creep := min (q.creep + 1) 65535 }))
      ∧ (∀ rest, q.results = .taken :: rest → exec (.debitResult n) s = .next (put { q with results := rest }))
      ∧ ∀ rest, q.results = .refused :: rest →
          (q.unbilled < 65534 →
            exec (.debitResult n) s = .next (put { q with results := rest, unbilled := q.unbilled + 1 }))
          ∧ (q.unbilled = 65534 →
              exec (.debitResult n) s
                = .next { put { q with results := rest, unbilled := 65535 } with au := { s.au with
                    inbox := s.au.inbox ++ [.raised (.quantizer n) (.channel n .unbilledFull)] } })
          ∧ (q.unbilled = 65535 → exec (.debitResult n) s = .next (put { q with results := rest }))

/-- R93, R95: CONFIGURE_CHANNEL writes the configuration, clears the partial count if divisor or window changed, and
dirties the settings item if anything changed; READ_CHANNEL answers the two halves. -/
def Obligations.ChannelsConfiguredAndRead : Prop :=
  ∀ (s : State) (q : Request) (n : Channel),
    let x := s.cqAt n
    let c := s.scAt n
    let partialCount := match x.accumulation with
      | .idle => 0
      | .accumulating count _ => count
    let left := match x.accumulation with
      | .idle => 0
      | .accumulating _ left => left
    let config (f : ChannelConfig) : List Byte :=
      count16 f.divisor ++ count16 f.window ++ count16 f.timeout ++ [yesNo f.reconnect, yesNo f.reclose]
    (∀ f, s.Serves q (.configureChannel n f) →
      (f = x.config → exec .configureChannel s = .next (s.answering q .ok ([0#8, 0#8] ++ config f)))
      ∧ (f ≠ x.config →
          let dirtied : State := { s with ru := { s.ru with inbox := s.ru.inbox ++ [(.quantizer n, .settings)] } }
          (f.divisor = x.config.divisor → f.window = x.config.window →
            exec .configureChannel s
              = .next (State.answering { dirtied with cq := s.cq.set n { x with config := f } } q .ok
                  ([0#8, 0#8] ++ config f)))
          ∧ (f.divisor ≠ x.config.divisor ∨ f.window ≠ x.config.window →
              exec .configureChannel s
                = .next (State.answering { dirtied with cq := s.cq.set n { x with config := f, accumulation := .idle } } q .ok
                    (count16 partialCount ++ config f)))))
    ∧ (s.re = some { request := q, phase := .channel n none none } →
        exec (.readChannel .quantizer) s
          = .next (s.awaiting q (.channel n
              (some ([if x.accumulation = .idle then 1#8 else 2#8] ++ count16 partialCount ++ leBytes 4 left
                ++ count16 x.creep ++ count16 x.unbilled ++ config x.config)) none)))
    ∧ ∀ half, s.re = some { request := q, phase := .channel n (some half) none } →
        exec (.readChannel .supply) s
          = .next (s.answering q .ok
              (half ++ [yesNo c.hold, supplyCode c.state, faultCode c.state, yesNo c.drive, yesNo c.feedback]))

/-! ## Supply -/

/-- R104 to R106: a notice replaces the view, and the evaluation that it makes due acts by the supply state.  That a LIVE
view without a credit state neither demands an opening nor allows arming is the model's choice (log 11). -/
def Obligations.NoticesAreEvaluated : Prop :=
  ∀ (s : State) (n : Channel) (v : View) (rest : List View),
    let c := s.scAt n
    let seen := { c with view := v, notices := rest }
    let put (x : Supply) := { s with sc := s.sc.set n x }
    let demanded := v = .vacant ∨ (c.hold = false ∧ ∃ h e, v = .live h (some .exhausted) e)
    let allowed := ∃ h credit e, v = .live h (some credit) e ∧ credit ≠ .exhausted
    c.notices = v :: rest →
    (c.state = .closed → demanded →
        exec (.notice n) s
          = .next (put { seen with state := .opening, drive := false, timer := some (s.cqAt n).config.timeout }))
      ∧ (c.state = .closed → ¬demanded → exec (.notice n) s = .next (put seen))
      ∧ (c.state = .opened → allowed →
          exec (.notice n) s
            = .next { put { seen with state := .armed } with au := { s.au with
                inbox := s.au.inbox ++ [.raised (.supply n) (.channel n .armed)] } })
      ∧ (c.state = .opened → ¬allowed → exec (.notice n) s = .next (put seen))
      ∧ (c.state = .armed → allowed → exec (.notice n) s = .next (put seen))
      ∧ (c.state = .armed → ¬allowed → exec (.notice n) s = .next (put { seen with state := .opened }))
      ∧ ((c.state = .opening ∨ c.state = .closing ∨ c.state = .adopting ∨ ∃ k, c.state = .fault k) →
          exec (.notice n) s = .next (put seen))

/-- R103, R107 to R110: feedback events confirm operations and find unexpected changes of the contacts, and the
operation timer turns an unconfirmed operation into a fault; a timer that does not run does not expire (log 2).  That an
event shows in the sampled pin and ends the filter's run is the model's choice (log 4). -/
def Obligations.FeedbackDecides : Prop :=
  ∀ (s : State) (n : Channel),
    let c := s.scAt n
    let faulted (level : Bool) (kind : FaultKind) : State :=
      { s with
        sc := s.sc.set n { c with
          state := .fault kind, drive := false, timer := none, feedback := level, feedbackRun := 0 }
        pins := { s.pins with fbk := setWith s.pins.fbk n.val level }
        au := { s.au with inbox := s.au.inbox ++ [.raised (.supply n) (.channel n .supplyFault)] } }
    let shown (level : Bool) (state : SupplyState) (timer : Option Nat) : State :=
      { s with
        sc := s.sc.set n { c with state := state, timer := timer, feedback := level, feedbackRun := 0 }
        pins := { s.pins with fbk := setWith s.pins.fbk n.val level } }
    let expired (kind : FaultKind) : State :=
      { s with
        sc := s.sc.set n { c with state := .fault kind, drive := false, timer := none }
        au := { s.au with inbox := s.au.inbox ++ [.raised (.supply n) (.channel n .supplyFault)] } }
    (c.feedback = true →
      (c.state = .opening → exec (.feedbackEvent n false) s = .next ((shown false .opened none).evaluate n))
      ∧ (c.state = .closed → exec (.feedbackEvent n false) s = .next (faulted false .dropped)))
    ∧ (c.feedback = false →
        (c.state = .closing → exec (.feedbackEvent n true) s = .next ((shown true .closed none).evaluate n))
        ∧ (c.state = .opened ∨ c.state = .armed → exec (.feedbackEvent n true) s = .next (faulted true .welded)))
    ∧ (∀ level, c.feedback ≠ level → (c.state = .adopting ∨ ∃ k, c.state = .fault k) →
        exec (.feedbackEvent n level) s = .next (shown level c.state c.timer))
    ∧ (∀ left, c.timer = some left →
        (c.state = .opening → exec (.operationTimerExpiry n) s = .next (expired .stuckClosed))
        ∧ (c.state = .closing → exec (.operationTimerExpiry n) s = .next (expired .failToClose)))
    ∧ (c.timer = none → exec (.operationTimerExpiry n) s = .next s)

/-- R112 to R115: the button recogniser, what a press does by supply state and view, and what the result of an engage
claim does.  That an edge shows in the sampled pin is the model's choice (log 4). -/
def Obligations.PressesAreActedOn : Prop :=
  ∀ (s : State) (n : Channel),
    let c := s.scAt n
    let put (x : Supply) := { s with sc := s.sc.set n x }
    let taken := { c with button := .waitDeassert }
    let closing (x : Supply) :=
      put { x with state := .closing, drive := true, timer := some (s.cqAt n).config.timeout }
    (∀ level, c.state ≠ .adopting →
      exec (.buttonRecogniserEdge n level) s
        = .next { s with
            pins := { s.pins with btn := setWith s.pins.btn n.val level }
            sc := s.sc.set n { c with
              button :=
                match c.button, level with
                | .waitDeassert, true => .waitDeassert
                | .waitDeassert, false => .waitAssert
                | .waitAssert, true => .qualifying 0
                | .waitAssert, false => .waitAssert
                | .qualifying k, true => .qualifying k
                | .qualifying _, false => .waitAssert } })
    ∧ (∀ elapsed, c.button = .qualifying elapsed → s.ru.power ≠ .restoring →
        (c.state = .armed → exec (.press n) s = .next (closing taken))
        ∧ (∀ h credit, c.view = .live h (some credit) (some .available) → c.engage = none →
            (c.state = .opened → credit = .exhausted →
              exec (.press n) s
                = .next (put { taken with engage := some { handle := h, fromClosed := false, answer := none } }))
            ∧ (c.state = .closed → credit = .exhausted ∨ credit = .low →
                exec (.press n) s
                  = .next (put { taken with engage := some { handle := h, fromClosed := true, answer := none } })))
        ∧ ((c.state = .opening ∨ c.state = .closing ∨ c.state = .adopting ∨ ∃ k, c.state = .fault k) →
            exec (.press n) s = .next (put taken))
        ∧ (c.state ≠ .armed → c.engage ≠ none → exec (.press n) s = .next (put taken))
        ∧ (c.state ≠ .armed → (∀ h credit, c.view = .live h (some credit) (some .available) →
              credit = .normal ∨ credit = .emergency ∨ (c.state = .opened ∧ credit = .low)) →
            exec (.press n) s = .next (put taken)))
    ∧ ∀ (e : Engage) (r : EngageResult), c.engage = some e → e.answer = some r →
        let cleared := { c with engage := none }
        (r = .declined → exec (.engageResult n) s = .next (put cleared))
        ∧ (∀ credit status, r = .taken (some credit) status →
            ((∀ x y, c.view ≠ .live e.handle x y) ∨ e.fromClosed = true
                ∨ (c.state ≠ .opened ∧ c.state ≠ .armed) →
              exec (.engageResult n) s = .next (put cleared))
            ∧ (∀ x y, c.view = .live e.handle x y → e.fromClosed = false → c.state = .opened ∨ c.state = .armed →
                (credit ≠ .exhausted → exec (.engageResult n) s = .next (closing cleared))
                ∧ (credit = .exhausted → exec (.engageResult n) s = .next ((put cleared).evaluate n))))

/-- R111, R116, R117: the requests SET_HOLD, RECONNECT and CLEAR_FAULT at one controller. -/
def Obligations.SupplyRequestsAnswered : Prop :=
  ∀ (s : State) (q : Request) (n : Channel),
    let c := s.scAt n
    let put (x : Supply) := { s with sc := s.sc.set n x }
    (s.Serves q (.reconnect n) →
      (c.state = .armed → (s.cqAt n).config.reconnect = true →
        exec .reconnect s
          = .next ((put { c with
              state := .closing, drive := true, timer := some (s.cqAt n).config.timeout }).answering q .ok
              [supplyCode .closing]))
      ∧ (c.state ≠ .armed ∨ (s.cqAt n).config.reconnect = false →
          exec .reconnect s = .next (s.answering q .wrongState [supplyCode c.state])))
    ∧ (s.Serves q (.clearFault n) →
        (∀ k, c.state = .fault k → c.feedback = false →
          let t := (put { c with state := .opened }).evaluate n
          exec .clearFault s = .next (t.answering q .ok [supplyCode (t.scAt n).state, 0#8]))
        ∧ ((∀ k, c.state ≠ .fault k) ∨ c.feedback = true →
            exec .clearFault s = .next (s.answering q .wrongState [supplyCode c.state, faultCode c.state])))
    ∧ ∀ (mask : BitVec 8) (set : Bool) (flags : Vector (Option Bool) 8),
        s.re = some { request := q, phase := .hold mask set flags } → flags[n] = none →
        let named := mask.getLsbD n.val
        let after := if named = true ∧ c.hold ≠ set then
            State.evaluate { put { c with hold := set } with
              ru := { s.ru with inbox := s.ru.inbox ++ [(.supply n, .settings)] } } n
          else s
        let hold := if named then set else c.hold
        ((∃ m, m ≠ n ∧ flags[m] = none) →
          exec (.setHold n) s
            = .next { after with re := some { request := q, phase := .hold mask set (flags.set n (some hold)) } })
        ∧ (∀ others : Vector Bool 8, (∀ m, m ≠ n → flags[m] = some others[m]) →
            exec (.setHold n) s = .next (after.answering q .ok [channelSet (others.set n hold)]))

/-- R122: the adopted state by drive latch, feedback level and kind of the reset.  That a LIVE view without a credit state
does not allow arming is the model's choice (log 11). -/
def Obligations.AdoptionFollowsTheTable : Prop :=
  ∀ (s : State) (n : Channel),
    let c := s.scAt n
    let adopted := { c with adopt := false, button := .waitDeassert }
    let put (x : Supply) := { s with sc := s.sc.set n x }
    let allowed := ∃ h credit e, c.view = .live h (some credit) e ∧ credit ≠ .exhausted
    let timeout := (s.cqAt n).config.timeout
    c.adopt = true → c.notices = [] → c.state = .adopting → s.au.inbox = [] →
    (c.drive = true → c.feedback = true →
        exec (.adopt n) s = .next ((put { adopted with state := .closed }).evaluate n))
      ∧ (c.drive = true → c.feedback = false →
          exec (.adopt n) s = .next (put { adopted with state := .closing, timer := some timeout }))
      ∧ (c.drive = false → c.feedback = true → s.ru.kind = .powerOn →
          exec (.adopt n) s
            = .next { put { adopted with state := .fault .welded, timer := none } with au := { s.au with
                inbox := [.raised (.supply n) (.channel n .supplyFault)] } })
      ∧ (c.drive = false → c.feedback = true → s.ru.kind ≠ .powerOn →
          exec (.adopt n) s = .next (put { adopted with state := .opening, timer := some timeout }))
      ∧ (c.drive = false → c.feedback = false →
          s.ru.kind = .powerOn → allowed → (s.cqAt n).config.reclose = true →
          exec (.adopt n) s = .next (put { adopted with state := .closing, drive := true, timer := some timeout }))
      ∧ (c.drive = false → c.feedback = false →
          (s.ru.kind ≠ .powerOn ∨ ¬allowed ∨ (s.cqAt n).config.reclose = false) →
          exec (.adopt n) s = .next ((put { adopted with state := .opened }).evaluate n))

/-! ## The attention list -/

/-- R150, R151, R152, R157: how a raise and a removal are taken, the oldest message of a block first. -/
def Obligations.AttentionMessagesTaken : Prop :=
  ∀ (s : State) (before after : List AttentionMessage),
    (∀ (source : Block) (r : Raise),
      source.raisesCauses = true → s.au.inbox = before ++ .raised source r :: after →
      (∀ m ∈ before, m.isFrom source = false) →
      let mask := match r with
        | .slot _ _ => s.au.mask.slot
        | .channel _ _ => s.au.mask.channel
        | .device _ => s.au.mask.device
      let left := { s.au with inbox := before ++ after }
      (mask.getLsbD (raiseBit r) = true → exec (.causeRaise source) s = .next { s with au := left })
      ∧ (mask.getLsbD (raiseBit r) = false →
          (∀ x e y, s.au.list = x ++ e :: y → e.subject = raiseSubject r →
              (∀ d ∈ x, d.subject ≠ raiseSubject r) →
            exec (.causeRaise source) s
              = .next { s with au := { left with
                  list := x ++ { e with causes := e.causes ||| (1#8 <<< raiseBit r) } :: y, attn := true } })
          ∧ ((∀ d ∈ s.au.list, d.subject ≠ raiseSubject r) →
            exec (.causeRaise source) s
              = .next { s with au := { left with
                  list := s.au.list ++ [{ subject := raiseSubject r, causes := 1#8 <<< raiseBit r }]
                  attn := true } })))
    ∧ ∀ i, s.au.inbox = before ++ .removed i :: after → (∀ m ∈ before, m.isFrom .store = false) →
        let kept := s.au.list.filter fun e => e.subject ≠ .slot i
        exec .slotEntryRemoval s
          = .next { s with au := { s.au with
              inbox := before ++ after, list := kept, attn := !kept.isEmpty } }

/-- R152 to R155: FETCH_ATTENTION reports the head, ACK_ATTENTION removes causes and an emptied entry, and
SET_ATTENTION_MASK replaces the mask whole. -/
def Obligations.AttentionRequestsAnswered : Prop :=
  ∀ (s : State) (q : Request),
    (s.Serves q .fetchAttention → s.au.list = [] →
      exec .fetchAttention s = .next (s.answering q .ok [2#8, 0#8, 0#8, 0#8, 0#8]))
    ∧ (∀ e rest, s.Serves q .fetchAttention → s.au.list = e :: rest →
        exec .fetchAttention s
          = .next (s.answering q .ok
              [1#8, subjectKindCode e.subject, subjectNumber e.subject, e.causes, count8 (rest.length + 1)]))
    ∧ (∀ subject causes, s.Serves q (.ackAttention subject causes) →
        (∀ x e y, s.au.list = x ++ e :: y → e.subject = subject → (∀ d ∈ x ++ y, d.subject ≠ subject) →
          let held := e.causes &&& ~~~causes
          (held = 0#8 →
            exec .ackAttention s
              = .next (State.answering { s with au := { s.au with list := x ++ y, attn := !(x ++ y).isEmpty } } q .ok
                  [0#8, 0#8, count8 (x.length + y.length)]))
          ∧ (held ≠ 0#8 →
              exec .ackAttention s
                = .next (State.answering { s with au := { s.au with list := x ++ { e with causes := held } :: y, attn := true }
                    } q .ok [held, 1#8, count8 (x.length + y.length + 1)])))
        ∧ ((∀ d ∈ s.au.list, d.subject ≠ subject) → s.au.attn = !s.au.list.isEmpty →
            exec .ackAttention s = .next (s.answering q .ok [0#8, 0#8, count8 s.au.list.length])))
    ∧ ∀ m, s.Serves q (.setAttentionMask m) →
        exec .setAttentionMask s
          = .next (State.answering { s with au := { s.au with mask := m } } q .ok
              [s.au.mask.slot, s.au.mask.channel, s.au.mask.device, m.slot, m.channel, m.device])

/-! ## Retention -/

/-- R126, R128, R129: how an item dirtied joins the queue, when the engine takes the head, and what each owner gives
to its snapshot.  That the engine takes the head in the event that makes it possible is read from R128 (log 6), and that
the Store's part of a settings snapshot waits while a BILL_UNBILLED is partly done from 1.4 (log 33). -/
def Obligations.DirtyItemsAreGathered : Prop :=
  ∀ s : State,
    let r := s.ru
    let put (x : Retention) := { s with ru := x }
    (∀ (source : Block) (x : Item) (before after : List (Block × Item)),
      source.ownsRetained = true → r.inbox = before ++ (source, x) :: after → (∀ m ∈ before, m.1 ≠ source) →
      let left := { r with inbox := before ++ after }
      let queue := if r.isBarred x = true ∨ x ∈ r.queue then r.queue else r.queue ++ [x]
      (r.engine ≠ .idle ∨ r.power = .restoring →
        exec (.dirtying source) s = .next (put { left with queue := queue }))
      ∧ (r.engine = .idle → r.power = .run ∨ r.power = .holdup → r.commitSerial ≠ 0xFFFFFFFF#32 → r.queue = [] →
          r.isBarred x = false →
          exec (.dirtying source) s = .next (put { left with engine := .snapshot (.start x) })))
    ∧ (∀ x rest, r.queue = x :: rest → r.engine = .idle → r.power ≠ .restoring →
        (r.commitSerial ≠ 0xFFFFFFFF#32 →
          exec .commitTake s = .next (put { r with queue := rest, engine := .snapshot (.start x) }))
        ∧ (r.commitSerial = 0xFFFFFFFF#32 → exec .commitTake s = .next s))
    ∧ (∀ i, r.engine = .snapshot (.account i none) → s.store.billing = none →
        let gathered := put { r with engine := .snapshot (.account i (some (serialise i (s.slotAt i)))) }
        (s.intactAt i = true →
          s.lifeAt i = .waiting ∨ s.lifeAt i = .live ∨ s.lifeAt i = .settled ∨ s.lifeAt i = .free →
          exec .snapshotClaim s = .next gathered)
        ∧ ((∃ held, s.lifeAt i = .quarantined held) ∨ (s.lifeAt i = .lost ∧ s.intactAt i = true) →
            (r.queue = [] → r.power ≠ .draining → exec .snapshotClaim s = .next (put { r with engine := .idle }))
            ∧ (∀ x rest, r.queue = x :: rest → r.power ≠ .restoring → r.commitSerial ≠ 0xFFFFFFFF#32 →
                exec .snapshotClaim s = .next (put { r with queue := rest, engine := .snapshot (.start x) }))))
    ∧ (r.engine = .snapshot (.tariff none) →
        exec (.snapshotPart .tariff) s = .next (put { r with engine := .snapshot (.tariff (some s.tu.active)) }))
    ∧ ∀ counters band configs holds, r.engine = .snapshot (.settings counters band configs holds) →
        let gathers (g : Gathering) := put { r with engine := .snapshot g }
        (counters = none → s.store.billing = none →
          exec (.snapshotPart .store) s
            = .next (gathers (.settings (some (Vector.ofFn fun i => (s.slotAt i).counter)) band configs holds)))
        ∧ (s.store.billing ≠ none → exec (.snapshotPart .store) s = .next s)
        ∧ (band = none →
            exec (.snapshotPart .tariff) s = .next (gathers (.settings counters (some s.tu.band) configs holds)))
        ∧ (∀ n : Channel, configs[n] = none →
            exec (.snapshotPart (.quantizer n)) s
              = .next (gathers (.settings counters band (configs.set n (some (s.cqAt n).config)) holds)))
        ∧ (∀ n : Channel, holds[n] = none →
            exec (.snapshotPart (.supply n)) s
              = .next (gathers (.settings counters band configs (holds.set n (some (s.scAt n).hold)))))

/-- R130, R131: a write advances the commit serial and goes to a copy that is not the item's latest one; its completion
makes the copy the latest if it reads back as written, and else marks it invalid, counts the fault and dirties the
item again.  What the copy reads back as is an operand (log 17); that the serial stands before the content in the CRC as
four bytes, the least significant first, is the model's choice (log 12). -/
def Obligations.WritesKeepTheLatestCopy : Prop :=
  ∀ s : State,
    let r := s.ru
    (∀ g x content, r.engine = .snapshot g → g.complete = some (x, content) →
      let e := r.entry x
      let aValid := ∃ k, e.a = .valid k
      let bValid := ∃ k, e.b = .valid k
      ∃ which : CopyId,
        exec .writeStart s
          = .next { s with ru := { r with
              commitSerial := r.commitSerial + 1#32
              engine := .writing { item := x, copy := which, serial := r.commitSerial + 1#32, content := content,
                                   elapsed := 0 } } }
        ∧ (aValid → bValid → e.latest ≠ some which) ∧ (aValid → ¬bValid → which = .b)
        ∧ (¬aValid → which = .a))
    ∧ ∀ (w : Write) (d : PerItem DirectoryEntry),
        r.engine = .writing w → r.directory = some d → r.power = .run ∨ r.power = .holdup →
        r.commitSerial ≠ 0xFFFFFFFF#32 →
        let image : NvCopy := .image w.serial w.content (crc16 (le32 w.serial ++ w.content))
        let marked (c : CopyClass) : DirectoryEntry :=
          { d.get w.item with
            a := if w.copy = .a then c else (d.get w.item).a
            b := if w.copy = .b then c else (d.get w.item).b }
        let written (t : State) (found : NvCopy) : Prop :=
          (t.ru.array.get w.item).get w.copy = found
            ∧ (∀ x c, x ≠ w.item ∨ c ≠ w.copy → (t.ru.array.get x).get c = (r.array.get x).get c)
            ∧ t.ru.commitSerial = r.commitSerial ∧ t.ru.inbox = r.inbox ∧ t.ru.barred = r.barred
            ∧ t.ru.power = r.power ∧ { t with ru := r } = s
        let served (t : State) (queue : List Item) : Prop :=
          (queue = [] → t.ru.engine = .idle ∧ t.ru.queue = [])
            ∧ ∀ x rest, queue = x :: rest → t.ru.engine = .snapshot (.start x) ∧ t.ru.queue = rest
        (∃ t, exec (.writeCompletion none) s = .next t ∧ written t image ∧ served t r.queue
          ∧ t.ru.writeFaults = r.writeFaults
          ∧ t.ru.directory = some (d.put w.item { marked (.valid w.serial) with latest := some w.copy }))
        ∧ ∀ found, found ≠ image →
            ∃ t, exec (.writeCompletion (some found)) s = .next t ∧ written t found
              ∧ served t (if r.isBarred w.item = true ∨ w.item ∈ r.queue then r.queue else r.queue ++ [w.item])
              ∧ t.ru.writeFaults = min (r.writeFaults + 1) 65535
              ∧ t.ru.directory = some (d.put w.item (marked .invalid))

/-! ## Power, device requests and the drain -/

/-- R135, R147, R148: power-fail warnings and their end; IDENTIFY and the three parts of READ_DEVICE, for every state of
the commit engine and of the levy walk.  That an event shows in the sampled pin and ends the filter's run is the model's
choice (log 4); so are the order of the parts (log 3) and the bytes in the absence of a summary (log 13). -/
def Obligations.PowerAndDeviceReported : Prop :=
  ∀ (s : State) (q : Request),
    let r := s.ru
    let level (high : Bool) (power : Power) : State :=
      { s with ru := { r with pfw := high, pfwRun := 0, power := power }, pins := { s.pins with pfw := high } }
    let engineShows (bytes : List Byte) : Prop :=
      (r.engine = .idle ∧ bytes = [1#8, 0#8])
        ∨ (∃ i content, r.engine = .snapshot (.account i content) ∧ bytes = [2#8, count8 i.val])
        ∨ (∃ bank, r.engine = .snapshot (.tariff bank) ∧ bytes = [2#8, 32#8])
        ∨ (∃ counters band configs holds,
            r.engine = .snapshot (.settings counters band configs holds) ∧ bytes = [2#8, 33#8])
        ∨ ∃ w, r.engine = .writing w ∧
            ((∃ i, w.item = .account i ∧ bytes = [3#8, count8 i.val])
              ∨ (w.item = .tariff ∧ bytes = [3#8, 32#8]) ∨ (w.item = .settings ∧ bytes = [3#8, 33#8]))
    let summaryShows (bytes : List Byte) : Prop :=
      (∃ x, r.summary = some x ∧
          bytes = [resetCode x.kind, count8 x.restored, count8 x.blank, count8 x.lost, count8 x.quarantined,
            count8 x.promoted, count8 x.torn, itemOutcomeCode x.settings, itemOutcomeCode x.tariff])
        ∨ (r.summary = none ∧ bytes = List.replicate 9 0#8)
    let walkShows (bytes : List Byte) : Prop :=
      (s.le.walk = .idle ∧ bytes = [1#8, 0#8, 0#8, 0#8, 0#8, 0#8])
        ∨ (∃ w, s.le.walk = .walking w ∧
            bytes = [2#8] ++ le16 w.number ++ [count8 w.cursor, count8 w.charged, count8 w.already])
        ∨ ∃ w, s.le.walk = .stopping w ∧
            bytes = [3#8] ++ le16 w.number ++ [count8 w.cursor, count8 w.charged, count8 w.already]
    let lastShows (bytes : List Byte) : Prop :=
      (s.le.last = none ∧ bytes = List.replicate 6 0#8)
        ∨ ∃ x, s.le.last = some x ∧
            bytes = [1#8] ++ le16 x.number ++ [count8 x.charged, count8 x.already, if x.complete then 1#8 else 2#8]
    (r.pfw = false → r.power = .run →
      exec (.pfwEvent true) s
        = .next { level true .holdup with au := { s.au with
            inbox := s.au.inbox ++ [.raised .retention (.device .powerWarn)] } })
    ∧ (r.pfw = true → r.power = .holdup → exec (.pfwEvent false) s = .next (level false .run))
    ∧ (∀ high, r.pfw ≠ high → r.power = .restoring ∨ r.power = .draining →
        exec (.pfwEvent high) s = .next (level high r.power))
    ∧ (s.Serves q .identify →
        exec .identify s
          = .next (s.answering q .ok [0x17#8, 0x8A#8, 0x00#8, 1#8, 1#8, 32#8, 8#8, 4#8, 4#8, 96#8]))
    ∧ (∀ engine summary, s.re = some { request := q, phase := .device none none none } → engineShows engine →
        summaryShows summary →
        exec (.readDevice .retention) s
          = .next (s.awaiting q (.device
              (some ([powerCode r.power, if r.pfw then 1#8 else 0#8] ++ le32 r.commitSerial
                  ++ [if r.commitSerial = 0xFFFFFFFF#32 then 1#8 else 0#8, count8 r.queue.length] ++ engine
                  ++ count16 r.writeFaults, summary)) none none)))
    ∧ (∀ walk last part, s.re = some { request := q, phase := .device (some part) none none } →
        walkShows walk → lastShows last →
        exec (.readDevice .levy) s = .next (s.awaiting q (.device (some part) (some (walk ++ last)) none)))
    ∧ ∀ first last levy, s.re = some { request := q, phase := .device (some (first, last)) (some levy) none } →
        s.storeTakes = true →
        exec (.readDevice .store) s
          = .next (s.answering q .ok (first ++ le32 s.store.openSerial ++ levy ++ last))

/-- R130, R137, R177: SOFT_RESET refused or taken, the stop at the end of the drain, and the answers to it. -/
def Obligations.DrainStopsTheBlocks : Prop :=
  ∀ (s : State) (q : Request),
    let r := s.ru
    let idle := r.queue = [] ∧ r.engine = .idle
    let unanswered : StopAnswers :=
      { store := false, tariff := false
        quantizers := Vector.replicate 8 false, supplies := Vector.replicate 8 false }
    (s.Serves q .softReset →
      (r.power = .holdup → exec .softReset s = .next (s.answering q .powerLow []))
      ∧ (r.power = .run → r.commitSerial = 0xFFFFFFFF#32 → exec .softReset s = .next (s.answering q .busy []))
      ∧ (r.power = .run → r.commitSerial ≠ 0xFFFFFFFF#32 → r.stop = none →
          (idle →
            exec .softReset s = .next { s with ru := { r with power := .draining, stop := some unanswered }, re := none })
          ∧ (¬idle → exec .softReset s = .next { s with ru := { r with power := .draining }, re := none })))
    ∧ (r.power = .draining → idle → r.stop = none →
        exec .drainComplete s = .next { s with ru := { r with stop := some unanswered } })
    ∧ ∀ a, r.stop = some a →
        let answered (x : StopAnswers) : State := { s with ru := { r with stop := some x } }
        ((∀ m ∈ r.inbox, m.1 ≠ .store) → exec (.stop .store) s = .next (answered { a with store := true }))
        ∧ ((∀ m ∈ r.inbox, m.1 ≠ .tariff) → exec (.stop .tariff) s = .next (answered { a with tariff := true }))
        ∧ (∀ n : Channel, (∀ m ∈ r.inbox, m.1 ≠ .quantizer n) →
            exec (.stop (.quantizer n)) s = .next (answered { a with quantizers := a.quantizers.set n true }))
        ∧ (∀ n : Channel, (∀ m ∈ r.inbox, m.1 ≠ .supply n) →
            exec (.stop (.supply n)) s = .next (answered { a with supplies := a.supplies.set n true }))

/-! ## Resets and restore -/

/-- R22, R75, R99, R121, R133, R138, R158, R179: what each kind of reset leaves in every block, and what it leaves of
a write under way.  The model's choice: what is left of the write is an operand, and a torn copy is kept as such
(log 17); the bytes under the CRC of a stored copy (log 12); and that the samples to come and the waiting commands
outlive a reset (log 4). -/
def Obligations.ResetsSetEveryBlock : Prop :=
  ∀ (s : State) (first : FirstSample),
    (∀ (kind : ResetKind) (array : PerItem Copies),
      let t := s.resetTo kind array first
      (∀ i, t.lifeAt i = .free ∧ (t.slotAt i).generation = 0#11 ∧ (t.slotAt i).counter = 0#11
          ∧ t.bodyAt i = Body.absent ∧ t.intactAt i = true)
        ∧ (∀ n, t.listAt n = []) ∧ t.store.openSerial = 0#32 ∧ t.store.billing = none
        ∧ t.le = { walk := .idle, claim := none, result := none, last := none }
        ∧ (∀ n, (t.cqAt n).accumulation = .idle ∧ (t.cqAt n).creep = 0 ∧ (t.cqAt n).unbilled = 0
            ∧ (t.cqAt n).recogniser = .waitDeassert ∧ (t.cqAt n).debits = 0 ∧ (t.cqAt n).results = [])
        ∧ (∀ n, (t.scAt n).state = .adopting ∧ (t.scAt n).timer = none ∧ (t.scAt n).view = .vacant
            ∧ (t.scAt n).engage = none ∧ (t.scAt n).button = .waitDeassert
            ∧ (t.scAt n).feedback = first.fbk.getLsbD n.val
            ∧ (t.scAt n).drive = (kind != .powerOn && (s.scAt n).drive))
        ∧ t.au.list = [] ∧ t.au.mask = { slot := 0#8, channel := 0#8, device := 0#8 } ∧ t.au.attn = false
        ∧ t.au.inbox = []
        ∧ t.ru.power = .restoring ∧ t.ru.kind = kind ∧ t.ru.queue = [] ∧ (∀ i : Slot, t.ru.barred[i] = false)
        ∧ t.ru.engine = .idle ∧ t.ru.commitSerial = 0#32 ∧ t.ru.writeFaults = 0 ∧ t.ru.directory = none
        ∧ t.ru.summary = none ∧ t.ru.array = array ∧ t.ru.pfw = first.pfw ∧ t.ru.stop = none ∧ t.ru.inbox = []
        ∧ t.ru.stage = .classify
        ∧ t.hl.requests = [] ∧ t.hl.responses = [] ∧ t.hl.gap = none ∧ t.hl.result = .accepted
        ∧ t.hl.frame = (if first.csn then .waitDeassert else .idle) ∧ t.re = none
        ∧ t.samples = s.samples ∧ t.pending = s.pending)
    ∧ (∀ cut, (∀ w, s.ru.engine ≠ .writing w) →
        exec (.powerOnReset cut first) s = .next (s.resetTo .powerOn s.ru.array first)
          ∧ exec (.pinReset cut first) s = .next (s.resetTo .pin s.ru.array first))
    ∧ (∀ cut w, s.ru.engine = .writing w →
        ∃ array,
          exec (.powerOnReset cut first) s = .next (s.resetTo .powerOn array first)
            ∧ exec (.pinReset cut first) s = .next (s.resetTo .pin array first)
            ∧ (array.get w.item).get w.copy
                = (match cut with
                  | .untouched => (s.ru.array.get w.item).get w.copy
                  | .torn => .torn
                  | .stored => .image w.serial w.content (crc16 (le32 w.serial ++ w.content)))
            ∧ ∀ x c, x ≠ w.item ∨ c ≠ w.copy → (array.get x).get c = (s.ru.array.get x).get c)
    ∧ ∀ a, s.ru.stop = some a → a.store = true → a.tariff = true → (∀ n : Channel, a.quantizers[n] = true) →
        (∀ n : Channel, a.supplies[n] = true) → s.ru.power = .draining → s.ru.queue = [] → s.ru.engine = .idle →
        s.ru.inbox = [] →
        exec (.softResetEffect first) s = .next (s.resetTo .soft s.ru.array first)

/-- R125, R139: the classing of the two copies of every item, the latest copy and the outcome.  A copy with
commit serial 0 is classed like any other (log 22); the bytes under the CRC, and the layout of the tariff and settings
items, are the model's choice (log 12). -/
def Obligations.CopiesAreClassed : Prop :=
  ∀ s : State, s.ru.power = .restoring → s.ru.stage = .classify → s.au.inbox = [] →
    ∃ (t : State) (d : PerItem DirectoryEntry),
      exec .classifyCopies s = .next t
      ∧ t.ru = { s.ru with directory := some d, tally := t.ru.tally, stage := .settings } ∧ { t with ru := s.ru } = s
      ∧ t.ru.tally.torn
          = allItems.countP (fun x => (d.get x).latest ≠ none ∧ ((d.get x).a = .invalid ∨ (d.get x).b = .invalid))
      ∧ ∀ x : Item,
          let e := d.get x
          let class_ (c : NvCopy) (k : CopyClass) : Prop :=
            match c with
            | .blank => k = .blank
            | .torn => k = .invalid
            | .image serial content crc =>
              (crc = crc16 (le32 serial ++ content) ∧ wellFormedFor x content = true → k = .valid serial)
                ∧ (crc ≠ crc16 (le32 serial ++ content) ∨ wellFormedFor x content = false → k = .invalid)
          class_ (s.ru.array.get x).a e.a ∧ class_ (s.ru.array.get x).b e.b
            ∧ (∀ j k, e.a = .valid j → e.b = .valid k → e.latest = some (if j < k then .b else .a))
            ∧ (∀ j, e.a = .valid j → (∀ k, e.b ≠ .valid k) → e.latest = some .a)
            ∧ (∀ k, e.b = .valid k → (∀ j, e.a ≠ .valid j) → e.latest = some .b)
            ∧ ((∀ j, e.a ≠ .valid j) → (∀ k, e.b ≠ .valid k) → e.latest = none)
            ∧ (e.outcome = .loaded ↔ e.latest ≠ none)
            ∧ (e.outcome = .blank ↔ e.a = .blank ∧ e.b = .blank)
            ∧ (x = .settings → t.ru.tally.settings = e.outcome) ∧ (x = .tariff → t.ru.tally.tariff = e.outcome)

/-- R5, R22, R140, R141: what restore loads into the blocks for settings and tariff items that are LOADED, BLANK or
LOST, each by itself; and into a slot for an account item that is LOADED with a record or with the FREE form, BLANK or
LOST.  The order of the messages to one block is the model's choice (log 7), and the layout of the tariff and settings
items too (log 12). -/
def Obligations.ItemsAreLoaded : Prop :=
  ∀ s : State, s.ru.power = .restoring →
    let joined (x : Item) (queue : List Item) : List Item := if x ∈ queue then queue else queue ++ [x]
    (∀ (x : Settings) (bank : Bank), s.ru.stage = .settings → s.au.inbox = [] →
      (s.ru.tally.settings = .loaded ∧ (∃ a, s.ru.latestContent .settings = some a ∧ parseSettings a = some x))
        ∨ (s.ru.tally.settings ≠ .loaded ∧ s.ru.latestContent .settings = none ∧ x = Settings.default) →
      (s.ru.tally.tariff = .loaded ∧ (∃ a, s.ru.latestContent .tariff = some a ∧ parseTariff a = some bank))
        ∨ (s.ru.tally.tariff ≠ .loaded ∧ s.ru.latestContent .tariff = none ∧ bank = Bank.zero) →
      ∃ t, exec .loadSettingsAndTariff s = .next t
        ∧ (∀ i, t.slotAt i = { s.slotAt i with counter := x.counters[i] })
        ∧ (∀ n, t.cqAt n = { s.cqAt n with config := x.configs[n] })
        ∧ (∀ n, t.scAt n = { s.scAt n with hold := x.holds[n] }) ∧ t.tu.band = x.band
        ∧ t.tu.active = bank ∧ t.tu.shadow = bank
        ∧ t.store.lists = s.store.lists ∧ t.store.openSerial = s.store.openSerial
        ∧ t.le = s.le ∧ t.hl = s.hl ∧ t.re = s.re ∧ t.pins = s.pins
        ∧ t.au = { s.au with
            inbox :=
              (if s.ru.tally.settings = .lost then [.raised .retention (.device .settingsLost)] else [])
                ++ if s.ru.tally.tariff = .lost then [.raised .retention (.device .tariffLost)] else [] }
        ∧ t.ru = { s.ru with
            stage := .accounts 0
            queue :=
              let first := if s.ru.tally.settings = .lost then joined .settings s.ru.queue else s.ru.queue
              if s.ru.tally.tariff = .lost then joined .tariff first else first })
    ∧ ∀ i : Slot, s.ru.stage = .accounts i.val → (i.val = 0 → s.au.inbox = []) →
        let e := s.ru.entry (.account i)
        let counter := (s.slotAt i).counter
        let stage : RestoreStage := if i.val = 31 then .references else .accounts (i.val + 1)
        let kept (t : State) : Prop :=
          (∀ j, j ≠ i → t.slotAt j = s.slotAt j) ∧ t.store.lists = s.store.lists
            ∧ t.store.openSerial = s.store.openSerial ∧ { t with store := s.store, ru := s.ru, au := s.au } = s
        let freed (t : State) : Prop :=
          t.lifeAt i = .free ∧ (t.slotAt i).generation = 0#11 ∧ (t.slotAt i).counter = counter
            ∧ t.bodyAt i = Body.absent ∧ t.intactAt i = true ∧ kept t ∧ t.au = s.au
        (∀ content x, e.outcome = .loaded → s.ru.latestContent (.account i) = some content →
          parseAccount i content = some x → x.life ≠ .free →
          ∃ t, exec .restoreLoad s = .next t
            ∧ t.lifeAt i = x.life ∧ (t.slotAt i).generation = x.generation ∧ t.bodyAt i = x.body
            ∧ t.intactAt i = true
            ∧ (t.slotAt i).counter = (if laterGeneration counter x.generation then x.generation else counter)
            ∧ kept t ∧ t.au = s.au
            ∧ t.ru.tally = { s.ru.tally with restored := s.ru.tally.restored + 1 } ∧ t.ru.stage = stage
            ∧ t.ru.queue = s.ru.queue)
        ∧ (∀ content x, e.outcome = .loaded → s.ru.latestContent (.account i) = some content →
            parseAccount i content = some x → x.life = .free →
            ∃ t, exec .restoreLoad s = .next t ∧ freed t
              ∧ t.ru = { s.ru with
                  tally := { s.ru.tally with restored := s.ru.tally.restored + 1 }, stage := stage })
        ∧ (e.outcome = .blank →
            ∃ t, exec .restoreLoad s = .next t ∧ freed t
              ∧ t.ru = { s.ru with tally := { s.ru.tally with blank := s.ru.tally.blank + 1 }, stage := stage })
        ∧ (e.outcome = .lost →
            let g := if counter = 0#11 then 1#11 else counter
            ∃ t, exec .restoreLoad s = .next t
              ∧ t.lifeAt i = .lost ∧ (t.slotAt i).generation = g ∧ (t.slotAt i).counter = g
              ∧ t.bodyAt i = Body.absent ∧ t.intactAt i = true ∧ kept t
              ∧ t.au = { s.au with inbox := s.au.inbox ++ [.raised .store (.slot i .lost)] }
              ∧ t.ru = { s.ru with
                  tally := { s.ru.tally with lost := s.ru.tally.lost + 1 }, stage := stage
                  inbox := s.ru.inbox ++ (if counter = 0#11 then [(.store, .settings)] else [])
                    ++ [(.store, .account i)] })

/-- R142 to R144, 7.6.1: of the accounts that share a reference all but the newest are quarantined; of the LIVE accounts
of a channel all but the newest are, and its list is rebuilt with the LIVE account first and the WAITING ones behind it
by age; a channel without occupant promotes its oldest WAITING account, whose emergency status is kept (log 34); and of
more than three bound accounts of a channel those behind the third place are quarantined and unbound.  The order of the
messages to one block, and of the channels and slots of one stage, is the model's choice (logs 7, 28), and so is that
an account beyond the third place which is quarantined already is treated like a WAITING one (log 39). -/
def Obligations.ConflictsAreSettled : Prop :=
  ∀ s : State, s.ru.power = .restoring → s.au.inbox = [] →
    let account (i : Slot) : Prop := s.lifeAt i = .waiting ∨ s.lifeAt i = .live ∨ s.lifeAt i = .settled
    let newer (i j : Slot) : Prop :=
      (s.bodyAt i).serial < (s.bodyAt j).serial ∨ ((s.bodyAt i).serial = (s.bodyAt j).serial ∧ i < j)
    let quarantined (t : State) (i : Slot) : Prop :=
      t.lifeAt i = .quarantined .settled ∧ t.intactAt i = true ∧ t.ru.barred[i] = true
        ∧ (t.slotAt i).generation = (s.slotAt i).generation ∧ (t.bodyAt i).credit = 0#8
        ∧ (t.bodyAt i).balance = (s.bodyAt i).balance ∧ (t.bodyAt i).reference = (s.bodyAt i).reference
        ∧ .raised .store (.slot i .quarantined) ∈ t.au.inbox
    let settled (m : Channel) : Prop := s.occupant m ≠ none ∨ ∀ h ∈ s.listAt m, s.lifeAt (slotOf h) ≠ .waiting
    (s.ru.stage = .references →
      ∃ t, exec .referenceConflicts s = .next t ∧ t.ru.stage = .occupancy ∧ t.store.lists = s.store.lists
        ∧ ∀ i,
          let loses := account i ∧ ∃ j, j ≠ i ∧ account j ∧ (s.bodyAt j).reference = (s.bodyAt i).reference ∧ newer i j
          (loses → quarantined t i) ∧ (¬loses → t.slotAt i = s.slotAt i))
    ∧ (s.ru.stage = .occupancy →
        ∃ t, exec .occupancyConflicts s = .next t ∧ t.ru.stage = .promotion
          ∧ (∀ i, (s.bodyAt i).channel ≤ 7#8 →
            let loses := s.lifeAt i = .live ∧
              ∃ j, s.lifeAt j = .live ∧ (s.bodyAt j).channel = (s.bodyAt i).channel ∧ newer i j
            (loses → quarantined t i) ∧ (¬loses → t.slotAt i = s.slotAt i))
          ∧ ∀ n,
            (∀ h, h ∈ t.listAt n ↔ ∃ i, h = t.handleAt i ∧ (t.bodyAt i).channel = count8 n.val
                ∧ (t.lifeAt i = .live ∨ t.lifeAt i = .waiting))
              ∧ (t.listAt n).Pairwise fun g h => t.lifeAt (slotOf h) = .waiting
                  ∧ (t.lifeAt (slotOf g) = .live ∨ newer (slotOf g) (slotOf h)))
    ∧ (∀ (n : Channel) (i : Slot) (rest : List Handle),
        s.ru.stage = .promotion → s.IntegrityLaw → s.listAt n = s.handleAt i :: rest → s.lifeAt i = .waiting →
        (∀ m, (s.listAt m).length ≤ 3) → (∀ m, m ≠ n → settled m) →
        let promoted := { s.bodyAt i with credit := ((s.bodyAt i).evaluated false).credit }
        ∃ t, exec .restorePromotion s = .next t
          ∧ t.lifeAt i = .live ∧ t.bodyAt i = promoted ∧ t.intactAt i = true
          ∧ (∀ j, j ≠ i → t.slotAt j = s.slotAt j) ∧ t.store.lists = s.store.lists
          ∧ t.au = { s.au with
              inbox := entryMessages i 0#8 promoted.credit ++ [.raised .store (.slot i .promoted)] }
          ∧ t.ru = { s.ru with
              stage := .summary, tally := { s.ru.tally with promoted := s.ru.tally.promoted + 1 }
              inbox := s.ru.inbox ++ [(.store, .account i)] })
    ∧ (s.ru.stage = .promotion → (∀ m, settled m) → (∀ i, s.ListedOnce i) →
        ∃ t, exec .restorePromotion s = .next t ∧ t.ru.stage = .summary
          ∧ (∀ n, t.listAt n = (s.listAt n).take 3)
          ∧ (∀ i,
            let loses := ∃ n, s.handleAt i ∈ (s.listAt n).drop 3
            (loses → quarantined t i) ∧ (¬loses → t.slotAt i = s.slotAt i))
          ∧ t.au = { s.au with
              inbox := channels.flatMap fun n =>
                ((s.listAt n).drop 3).reverse.map fun h => .raised .store (.slot (slotOf h) .quarantined) }
          ∧ t.ru.tally = { s.ru.tally with
              quarantined :=
                s.ru.tally.quarantined + (channels.map fun n => (s.listAt n).length - 3).sum }
          ∧ t.ru.inbox = s.ru.inbox ∧ t.sc = s.sc)

/-- R28, R100, R143, R145, R146: the counters from what was loaded, the summary, RESTORED, the notices and adopt
commands; and the end of restore in RUN or HOLDUP. -/
def Obligations.RestoreEnds : Prop :=
  ∀ s : State, s.ru.power = .restoring → s.au.inbox = [] →
    (s.ru.stage = .summary →
      ∃ t, exec .restoreSummary s = .next t
        ∧ (∀ i, s.lifeAt i ≠ .free → s.lifeAt i ≠ .lost → (s.bodyAt i).serial ≤ t.store.openSerial)
        ∧ (t.store.openSerial = 0#32
            ∨ ∃ i, s.lifeAt i ≠ .free ∧ s.lifeAt i ≠ .lost ∧ (s.bodyAt i).serial = t.store.openSerial)
        ∧ t.store.slots = s.store.slots ∧ t.store.lists = s.store.lists
        ∧ (∀ x k, (s.ru.entry x).a = .valid k ∨ (s.ru.entry x).b = .valid k → k ≤ t.ru.commitSerial)
        ∧ (t.ru.commitSerial = 0#32
            ∨ ∃ x, (s.ru.entry x).a = .valid t.ru.commitSerial ∨ (s.ru.entry x).b = .valid t.ru.commitSerial)
        ∧ t.ru.summary = some s.ru.tally ∧ t.ru.stage = .adoption ∧ t.ru.queue = s.ru.queue
        ∧ t.ru.inbox = s.ru.inbox
        ∧ t.au = { s.au with inbox := [.raised .retention (.device .restored)] }
        ∧ (∀ n, t.scAt n = { s.scAt n with notices := (s.scAt n).notices ++ [s.viewOf n], adopt := true })
        ∧ t.cq = s.cq ∧ t.tu = s.tu ∧ t.le = s.le ∧ t.hl = s.hl ∧ t.re = s.re)
    ∧ (s.ru.stage = .adoption → (∀ n, (s.scAt n).adopt = false ∧ (s.scAt n).state ≠ .adopting) →
        ∃ t, exec .endOfRestore s = .next t
          ∧ t.ru.power = (if s.ru.pfw then .holdup else .run) ∧ t.ru.stage = .done
          ∧ t.au = { s.au with
              inbox := if s.ru.pfw then [.raised .retention (.device .powerWarn)] else [] }
          ∧ (∀ n, t.cqAt n = { s.cqAt n with recogniser := .waitDeassert })
          ∧ (s.ru.engine = .idle → s.ru.commitSerial ≠ 0xFFFFFFFF#32 → ∀ x rest, s.ru.queue = x :: rest →
              t.ru.engine = .snapshot (.start x) ∧ t.ru.queue = rest)
          ∧ (s.ru.queue = [] → t.ru.engine = s.ru.engine ∧ t.ru.queue = [])
          ∧ t.store = s.store ∧ t.sc = s.sc ∧ t.tu = s.tu ∧ t.le = s.le ∧ t.hl = s.hl ∧ t.re = s.re)
end

