-- ==== Sys2Proof/Laws/Operations.lean ====
section
/-! SUPPORT. What each shared operation can do, said once: the check of a record, the end of a charge, the first checks
of a claim, the taking of requests, dirtyings, items and messages, and the evaluation of a controller. -/

namespace Sys2Proof.Machine

/-! ## The Account Store -/

/-- What the check of a record does (R12, R13, R15): nothing to one that passes; else it quarantines an account, renews a
quarantined record, and restores the form of a LOST or FREE slot. -/
theorem State.check_cases (s : State) (i : Slot) :
    (s.intactAt i = true ∧ s.check i = s)
      ∨ (s.intactAt i = false ∧
          ((∃ held, s.lifeAt i = (match held with | .waiting => .waiting | .live => .live | .settled => .settled)
              ∧ s.check i = s.quarantine i held)
            ∨ (∃ held, s.lifeAt i = .quarantined held
              ∧ s.check i = (s.putRecord i (s.slotAt i)).raiseSlot i .quarantined)
            ∨ (s.lifeAt i = .lost
              ∧ s.check i = s.setSlot i (lostForm i (s.slotAt i).generation (s.slotAt i).counter))
            ∨ (s.lifeAt i = .free ∧ s.check i = s.setSlot i (freeForm i (s.slotAt i).counter)))) := by
  by_cases h : s.intactAt i = true
  · exact .inl ⟨h, s.check_of_intact i h⟩
  · refine .inr ⟨by simpa using h, ?_⟩
    have h' : (s.slotAt i).intact i = false := by simpa [State.intactAt] using h
    unfold State.check State.lifeAt
    simp only [h', Bool.false_eq_true, ↓reduceIte]
    split
    · exact .inl ⟨.waiting, by assumption, rfl⟩
    · exact .inl ⟨.live, by assumption, rfl⟩
    · exact .inl ⟨.settled, by assumption, rfl⟩
    · exact .inr (.inl ⟨_, by assumption, rfl⟩)
    · exact .inr (.inr (.inl ⟨by assumption, rfl⟩))
    · exact .inr (.inr (.inr ⟨by assumption, rfl⟩))

/-- What the first checks of a claim by handle find (R12, R32, R56): a refusal, with the state that the check of the record
leaves, or an account that passes its check. -/
theorem State.named_cases (s : State) (h : Handle) :
    (s.named h = .refused s .noSuchAccount)
      ∨ (∃ i held, s.resolve h = some i ∧ s.lifeAt i = .quarantined held ∧ s.named h = .refused (s.check i) .integrity)
      ∨ (∃ i, s.resolve h = some i ∧ s.lifeAt i = .lost ∧ s.named h = .refused (s.check i) .wrongState)
      ∨ (∃ i, s.resolve h = some i ∧ (s.lifeAt i = .waiting ∨ s.lifeAt i = .live ∨ s.lifeAt i = .settled) ∧
          ((s.intactAt i = true ∧ s.named h = .found i)
            ∨ (s.intactAt i = false ∧ s.named h = .refused (s.check i) .integrity))) := by
  unfold State.named
  split
  · exact .inl rfl
  · rename_i i hi
    by_cases hw : s.intactAt i = true
    all_goals cases hl : s.lifeAt i <;> simp_all

/-- The record of the slot that a charge, credit or change of limits ends with (R47, R51). -/
theorem State.conclude_slotAt (s : State) (i j : Slot) (b : Body) (rising : Bool) :
    (s.conclude i b rising).slotAt j
      = if i = j then
          SlotState.sealed { s.slotAt i with
            body := if s.lifeAt i = .live then b.evaluated rising else b.stepped rising } i
        else s.slotAt j := by
  have key : ∀ t : State, ∀ x : SlotState, t.store = (s.putRecord i x).store →
      t.slotAt j = if i = j then x.sealed i else s.slotAt j := fun t x h => by
    rw [slotAt_congr h, State.putRecord_slotAt]
  unfold State.conclude
  split
  · rename_i hl
    rw [key _ { s.slotAt i with body := b.evaluated rising }]
    · simp [hl]
    · simp [State.putBody]
  all_goals
    rename_i hl
    rw [key _ { s.slotAt i with body := b.stepped rising } (by simp [State.putBody])]
    simp [hl]

/-- What such a claim hands to the Retention Unit (R47, R51): one dirtying. -/
theorem State.conclude_ru (s : State) (i : Slot) (b : Body) (rising : Bool) :
    (s.conclude i b rising).ru = { s.ru with inbox := s.ru.inbox ++ [(.store, .account i)] } := by
  unfold State.conclude
  split
  · simp [State.putBody]
  all_goals simp [State.putBody]

/-- A claim done whole leaves the Store as its own change left it (R17, R18). -/
theorem State.finishClaim_store (s0 : State) (t : Taken) : (s0.finishClaim t).store = t.state.store := by
  simp [State.finishClaim]

/-- A claim done whole answers the request served (R176). -/
theorem State.finishClaim_re (s0 : State) (t : Taken) :
    (s0.finishClaim t).re
      = t.state.re.map fun v => { v with phase := .answered { outcome := t.outcome, payload := t.payload } } := by
  simp [State.finishClaim]

/-! ## Promotion and placing -/

/-- What the examination of a list over records that pass their checks does (R26): nothing, where none is WAITING; or the
first one WAITING moves to the first place and is made LIVE. -/
theorem State.promoteFrom_cases (s : State) (n : Channel) (hs : List Handle)
    (h : ∀ g ∈ hs, s.intactAt (slotOf g) = true) :
    ((∀ g ∈ hs, s.lifeAt (slotOf g) ≠ .waiting) ∧ s.promoteFrom n hs = (s, none))
      ∨ ∃ before g after, hs = before ++ g :: after ∧ (∀ k ∈ before, s.lifeAt (slotOf k) ≠ .waiting)
          ∧ s.lifeAt (slotOf g) = .waiting
          ∧ s.promoteFrom n hs
            = ((s.setList n (g :: (s.listAt n).erase g)).makeOccupant (slotOf g), some (slotOf g)) := by
  induction hs with
  | nil => exact .inl ⟨by simp, rfl⟩
  | cons g rest ih =>
    have hc : s.check (slotOf g) = s := s.check_of_intact _ (h g (by simp))
    by_cases hw : s.lifeAt (slotOf g) = .waiting
    · exact .inr ⟨[], g, rest, rfl, by simp, hw, by simp [State.promoteFrom, hc, hw]⟩
    · have hstep : s.promoteFrom n (g :: rest) = s.promoteFrom n rest := by
        simp only [State.promoteFrom, hc]
        split
        · contradiction
        all_goals rfl
      rcases ih fun k hk => h k (by simp [hk]) with ⟨hr, he⟩ | ⟨before, k, after, rfl, hb, hk, he⟩
      · exact .inl ⟨by simpa [hw] using hr, hstep.trans he⟩
      · exact .inr ⟨g :: before, k, after, rfl, by simpa [hw] using hb, hk, hstep.trans he⟩

/-- What leaving a list does (R26): nothing to an account in none; else it leaves the list that held it when the claim
began, and the channel that it occupied is promoted. -/
theorem State.leaveList_cases (s s0 : State) (i : Slot) :
    (s0.channelOf (s0.handleAt i) = none ∧ s.leaveList s0 i = (s, none))
      ∨ ∃ n, s0.channelOf (s0.handleAt i) = some n
          ∧ s.leaveList s0 i
            = (let left := s.setList n ((s.listAt n).erase (s0.handleAt i))
              if s0.occupant n = some i then left.promote n else (left, none)) := by
  unfold State.leaveList
  cases hn : s0.channelOf (s0.handleAt i) with
  | none => exact .inl ⟨rfl, by simp [hn]⟩
  | some n => exact .inr ⟨n, rfl, by simp [hn]⟩

/-- A waiting account is placed behind those of lower or equal open serial and ahead of the next one (R24). -/
theorem State.insertBySerial_spec (s : State) (i : Slot) (hs : List Handle) :
    ∃ before after, before ++ after = hs ∧ s.insertBySerial i hs = before ++ s.handleAt i :: after
      ∧ (∀ g ∈ before, (s.bodyAt (slotOf g)).serial ≤ (s.bodyAt i).serial)
      ∧ ∀ g tl, after = g :: tl → (s.bodyAt i).serial < (s.bodyAt (slotOf g)).serial := by
  induction hs with
  | nil => exact ⟨[], [], rfl, rfl, by simp, nofun⟩
  | cons h rest ih =>
    unfold State.insertBySerial
    by_cases hl : (s.bodyAt i).serial < (s.bodyAt (slotOf h)).serial
    · refine ⟨[], h :: rest, rfl, by simp [hl], by simp, ?_⟩
      intro g tl hg
      cases hg
      exact hl
    · obtain ⟨before, after, hba, he, hb, ha⟩ := ih
      refine ⟨h :: before, after, by simp [hba], by simp [hl, he], ?_, ha⟩
      intro g hg
      rcases List.mem_cons.mp hg with rfl | hg
      · exact BitVec.not_lt.mp hl
      · exact hb g hg

/-- What a FREE form loaded by restore leaves (R5, R141): the slot free with its counter kept, every other place as it
was. -/
theorem State.loadFree_slotAt (s : State) (i j : Slot) :
    (s.loadFree i).slotAt j = if i = j then freeForm i (s.slotAt i).counter else s.slotAt j :=
  s.setSlot_slotAt i j _

/-! ## The Request Engine -/

/-- What the Request Engine does when it looks at its queue (R173): nothing, or it takes the head. -/
theorem State.takeRequest_cases (s : State) :
    (s.takeRequest = s ∧
        (s.re ≠ none ∨ s.hl.requests = [] ∨ 4 ≤ s.hl.responses.length
          ∨ (s.ru.power ≠ .run ∧ s.ru.power ≠ .holdup)))
      ∨ ∃ r rest, s.re = none ∧ s.hl.requests = r :: rest ∧ s.hl.responses.length < 4
          ∧ (s.ru.power = .run ∨ s.ru.power = .holdup)
          ∧ s.takeRequest = { s with
              hl := { s.hl with requests := rest }, re := some { request := r, phase := validate s.ru.power r } } := by
  unfold State.takeRequest
  by_cases h : s.mayTakeRequest = true
  · have h' := h
    simp only [State.mayTakeRequest, Bool.and_eq_true, Option.isNone_iff_eq_none, Bool.not_eq_true',
      List.isEmpty_eq_false_iff, Bool.or_eq_true, beq_iff_eq, queueDepth] at h'
    obtain ⟨⟨⟨hre, hq⟩, hlen⟩, hp⟩ := h'
    cases hr : s.hl.requests with
    | nil => exact absurd hr hq
    | cons r rest => exact .inr ⟨r, rest, hre, rfl, of_decide_eq_true hlen, hp, by simp [h, State.setHl]⟩
  · refine .inl ⟨by simp [h], ?_⟩
    by_contra hc
    push Not at hc
    apply h
    simp only [State.mayTakeRequest, Bool.and_eq_true, Option.isNone_iff_eq_none, Bool.not_eq_true',
      List.isEmpty_eq_false_iff, Bool.or_eq_true, beq_iff_eq, queueDepth]
    refine ⟨⟨⟨hc.1, hc.2.1⟩, decide_eq_true (by omega)⟩, ?_⟩
    by_cases hp : s.ru.power = .run
    · exact .inl hp
    · exact .inr (hc.2.2.2 hp)

/-! ## The Host Link -/

/-- What a bit does (R161): it completes a byte, or it joins the incomplete byte and shifts out the bit that stands
against it. -/
theorem State.linkBit_cases (s : State) (bit : Bool) :
    (s.hl.shift.length = 7 ∧ s.linkBit bit = s.linkByte (byteOfBits (s.hl.shift ++ [bit])))
      ∨ (s.hl.shift.length ≠ 7 ∧ s.linkBit bit = { s with hl := { s.hl with shift := s.hl.shift ++ [bit] } }) := by
  unfold State.linkBit Link.completes
  by_cases h : s.hl.shift.length = 7 <;> simp [h, State.setHl]

/-- A bit that joins an incomplete byte adds the bit of the byte being sent that stands against it (R161). -/
theorem Link.misoBits_append (l : Link) (bit : Bool) :
    ({ l with shift := l.shift ++ [bit] } : Link).misoBits = l.misoBits ++ [wireBit l.out l.shift.length] := by
  simp [Link.misoBits, List.range_succ]

/-! ## The operation timer -/

/-- What an expiry of the operation timer does (R107, R108): nothing where the timer does not run or no operation does;
else the operation ends in its fault. -/
theorem execOperationTimerExpiry_cases (n : Channel) (s : State) :
    (((s.scAt n).timer = none ∨ ((s.scAt n).state ≠ .opening ∧ (s.scAt n).state ≠ .closing))
        ∧ execOperationTimerExpiry n s = .next s)
      ∨ ((s.scAt n).timer.isSome = true
          ∧ (((s.scAt n).state = .opening ∧ execOperationTimerExpiry n s = .next (s.enterFault n .stuckClosed))
            ∨ ((s.scAt n).state = .closing
              ∧ execOperationTimerExpiry n s = .next (s.enterFault n .failToClose)))) := by
  unfold execOperationTimerExpiry
  cases (s.scAt n).timer <;> cases (s.scAt n).state <;> simp

/-! ## The Retention Unit -/

/-- What a dirtying does (R126, R127): nothing if the item is barred or in the queue, else the item joins the tail. -/
theorem Retention.takeDirtying_cases (r : Retention) (x : Item) :
    ((r.isBarred x = true ∨ x ∈ r.queue) ∧ r.takeDirtying x = r)
      ∨ (r.isBarred x = false ∧ x ∉ r.queue ∧ r.takeDirtying x = { r with queue := r.queue ++ [x] }) := by
  unfold Retention.takeDirtying
  by_cases hb : r.isBarred x = true
  · simp [hb]
  · by_cases hq : x ∈ r.queue <;> simp [hb, hq]

/-- What the commit engine does when it looks at the queue (R128, R130): nothing, or it takes the head. -/
theorem Retention.commitTake_cases (r : Retention) :
    r.commitTake = r
      ∨ ∃ x rest, r.engine = .idle ∧ r.queue = x :: rest ∧ r.power ≠ .restoring ∧ r.commitSerial ≠ serialLimit
          ∧ r.commitTake = { r with queue := rest, engine := .snapshot (.start x) } := by
  unfold Retention.commitTake
  by_cases h : r.mayTake = true
  · have h' := h
    simp only [Retention.mayTake, Bool.and_eq_true, beq_iff_eq, bne_iff_ne, ne_eq] at h'
    cases hq : r.queue with
    | nil => left; simp
    | cons x rest => exact .inr ⟨x, rest, h'.1.1.1, rfl, h'.1.2, h'.2, by simp [h]⟩
  · left; simp [h]

/-- What the end of the drain does (R137): nothing, or it sends the stop once. -/
theorem Retention.drainComplete_cases (r : Retention) :
    r.drainComplete = r
      ∨ (r.power = .draining ∧ r.queue = [] ∧ r.engine = .idle ∧ r.stop = none
          ∧ r.drainComplete = { r with stop := some .none }) := by
  unfold Retention.drainComplete
  split
  · rename_i h
    obtain ⟨hd, hs⟩ := h
    simp only [Retention.drained, Bool.and_eq_true, beq_iff_eq, List.isEmpty_iff] at hd
    exact .inr ⟨hd.1.1, hd.1.2, hd.2, hs, rfl⟩
  · exact .inl rfl

/-- What a bar leaves (R127): the item is out of the queue and barred; the drain may be complete by it. -/
theorem Retention.bar_queue (r : Retention) (i : Slot) :
    (r.bar i).queue = r.queue.erase (.account i) ∧ (r.bar i).barred = r.barred.set i true := by
  unfold Retention.bar
  rcases Retention.drainComplete_cases
    { r with queue := r.queue.erase (.account i), barred := r.barred.set i true } with h | ⟨_, _, _, _, h⟩
  all_goals rw [h]; exact ⟨rfl, rfl⟩

/-- The oldest dirtying of a block (R126): the first of that block, the others in their order. -/
theorem takeDirtyingOf_spec (source : Block) (x : Item) (before after : List (Block × Item))
    (h : ∀ m ∈ before, m.1 ≠ source) :
    takeDirtyingOf source (before ++ (source, x) :: after) = some (x, before ++ after) := by
  induction before with
  | nil => simp [takeDirtyingOf]
  | cons m rest ih =>
    obtain ⟨b, y⟩ := m
    have hb : b ≠ source := h (b, y) (by simp)
    simp [takeDirtyingOf, hb, ih fun m hm => h m (by simp [hm])]

/-! ## The Attention Unit -/

/-- The oldest message of a block (R151): the first of that block, the others in their order. -/
theorem takeMessage_spec (source : Block) (m : AttentionMessage) (before after : List AttentionMessage)
    (hm : m.isFrom source = true) (h : ∀ x ∈ before, x.isFrom source = false) :
    takeMessage source (before ++ m :: after) = some (m, before ++ after) := by
  induction before with
  | nil => simp [takeMessage, hm]
  | cons x rest ih =>
    have hx : x.isFrom source = false := h x (by simp)
    simp [takeMessage, hx, ih fun y hy => h y (by simp [hy])]

/-- A cause recorded keeps the subjects of the list, the new one appended if it was not there (R150). -/
theorem recordCause_subjects (x : Subject) (bit : Nat) (list : List Entry) :
    (recordCause x bit list).map (·.subject)
      = if x ∈ list.map (·.subject) then list.map (·.subject) else list.map (·.subject) ++ [x] := by
  induction list with
  | nil => simp [recordCause]
  | cons e rest ih =>
    unfold recordCause
    by_cases h : e.subject = x
    · simp [h]
    · have h' : x ≠ e.subject := fun k => h k.symm
      simp only [h, ↓reduceIte, List.map_cons, ih, List.mem_cons, h', false_or]
      split <;> simp

/-! ## The Supply Controllers -/

/-- What an evaluation does (R106): nothing, an opening, an arming with its cause, or the end of ARMED. -/
theorem State.evaluate_cases (s : State) (n : Channel) :
    s.evaluate n = s
      ∨ ((s.scAt n).state = .closed ∧ (s.scAt n).openingDemanded = true ∧ s.evaluate n = s.beginOpening n)
      ∨ ((s.scAt n).state = .opened ∧ (s.scAt n).armingAllowed = true
          ∧ s.evaluate n
            = (s.setSc n { s.scAt n with state := .armed }).raise (.supply n) (.channel n .armed))
      ∨ ((s.scAt n).state = .armed ∧ (s.scAt n).armingAllowed = false
          ∧ s.evaluate n = s.setSc n { s.scAt n with state := .opened }) := by
  unfold State.evaluate
  dsimp only
  split
  · by_cases h : (s.scAt n).openingDemanded = true
    · exact .inr (.inl ⟨by assumption, h, by simp [h]⟩)
    · exact .inl (by simp [h])
  · by_cases h : (s.scAt n).armingAllowed = true
    · exact .inr (.inr (.inl ⟨by assumption, h, by simp [h]⟩))
    · exact .inl (by simp [h])
  · by_cases h : (s.scAt n).armingAllowed = true
    · exact .inl (by simp [h])
    · exact .inr (.inr (.inr ⟨by assumption, by simpa using h, by simp [h]⟩))
  all_goals exact .inl rfl

end Sys2Proof.Machine
end

