-- ==== Sys2Proof/Tests/Slice0.lean ====
section
/-! SUPPORT. Tests: ill-formed commands refused, single steps whose results are the manual's, and a witness for the
hypotheses of every statement that has some. -/

namespace Sys2Proof.Tests

open Sys2Proof.Machine

set_option Elab.async false

/-! ## Helpers -/

/-- The state after a command, the state itself where it stops. -/
def after (i : Instr) (s : State) : State :=
  match exec i s with
  | .next t => t
  | .fault _ => s
  | .refused _ => s

/-- The answer that the request served has. -/
def answerOf (s : State) : Option (OutcomeCode × List Byte) :=
  match s.re with
  | some { phase := .answered r, .. } => some (r.outcome, r.payload)
  | _ => none

/-- A customer reference for account k. -/
def ref (k : Nat) : Reference := Vector.ofFn fun j => BitVec.ofNat 8 (10 * k + j.val)

/-- An account body: account k of channel n with a credit state and a balance, emergency AVAILABLE. -/
def account (n : Channel) (k : Nat) (credit : Byte) (balance : Int) : Body :=
  { Body.absent with
    channel := count8 n.val, reference := ref k, credit := credit, emergency := emergencyCode .available
    balance := BitVec.ofInt 32 balance, threshold := 1000#32, allowance := 500#32
    opening := BitVec.ofInt 32 balance, serial := BitVec.ofNat 32 k }

/-- A slot put in use with generation 1, so that its handle is 32 more than its number. -/
def holding (i : Slot) (life : Life) (b : Body) (s : State) : State :=
  s.putRecord i { life := life, generation := 1#11, counter := 1#11, body := b, word := 0#16 }

/-- A part in RUN with every slot FREE and every channel OPEN. -/
def running : State :=
  { State.reset with
    ru := { State.reset.ru with power := .run, stage := .done }
    sc := Vector.replicate 8 { Supply.reset false false with state := .opened } }

/-- A part in RUN: slot 0 the LIVE occupant of channel 1, slot 1 WAITING behind it, slot 2 SETTLED, slot 3 the
quarantined occupant of channel 3, slot 4 quarantined SETTLED, slot 5 LOST. -/
def table : State :=
  let s := holding 0 .live (account 1 1 (creditCode .normal) 1200) running
  let s := holding 1 .waiting (account 1 2 0#8 700) s
  let s := holding 2 .settled { account 1 3 0#8 40 with closing := some { balance := 40#32, reason := 1#8 } } s
  let s := holding 3 (.quarantined .live) (account 3 4 (creditCode .low) 900) s
  let s := holding 4 (.quarantined .settled) (account 4 5 0#8 60) s
  let s := holding 5 .lost Body.absent s
  ((s.setList 1 [32#16, 33#16]).setList 3 [35#16])

/-- The table with a fault in the record memory of a slot: one balance bit is flipped. -/
def damaged (i : Slot) : State :=
  let x := table.slotAt i
  table.setSlot i { x with body := { x.body with balance := x.body.balance ^^^ 1#32 } }

/-- A part in RUN whose slots hold the accounts named, each with generation 1, and whose lists are those given. -/
def peopled (accounts : List (Slot × Life × Body)) (lists : Vector (List Handle) 8) : State :=
  { running with store := { running.store with
      lists := lists
      slots := Vector.ofFn fun i =>
        match accounts.find? fun a => a.1 == i with
        | some (_, life, b) =>
          ({ life := life, generation := 1#11, counter := 1#11, body := b, word := 0#16 } : SlotState).sealed i
        | none => freeForm i 0#11 } }

/-- Slot 0 the LIVE occupant of channel 1 with slot 1 WAITING behind it; channel 2 without occupant, the quarantined
waiting slot 6 in its list; slot 3 the quarantined occupant of channel 3 with slot 7 WAITING behind it; slot 4
quarantined SETTLED. -/
def crossed : State :=
  peopled
    [(0, .live, account 1 1 (creditCode .normal) 1200), (1, .waiting, account 1 2 0#8 700),
      (3, .quarantined .live, account 3 4 (creditCode .low) 900), (4, .quarantined .settled, account 4 5 0#8 60),
      (6, .quarantined .waiting, { account 2 7 0#8 100 with
        serial := 0#32, emergency := emergencyCode .inUse, vouchers := [1#32, 0#32, 2#32, 1#32] }),
      (7, .waiting, { account 3 8 0#8 100 with emergency := emergencyCode .spent })]
    #v[[], [32#16, 33#16], [38#16], [35#16, 39#16], [], [], [], []]

/-- Slot 0 the LIVE occupant of channel 1 with the quarantined waiting slot 1 behind it. -/
def stalled : State :=
  peopled [(0, .live, account 1 1 (creditCode .normal) 1200), (1, .quarantined .waiting, account 1 2 0#8 700)]
    #v[[], [32#16, 33#16], [], [], [], [], [], []]

/-- Four accounts on channel 1, the first LIVE. -/
def overfull : State :=
  peopled
    [(0, .live, account 1 1 (creditCode .normal) 1200), (1, .waiting, account 1 2 0#8 700),
      (8, .waiting, account 1 9 0#8 1), (9, .waiting, account 1 10 0#8 1)]
    #v[[], [32#16, 33#16, 40#16, 41#16], [], [], [], [], [], []]

/-- The request that the helpers serve. -/
def asked : Request := { tag := 7#8, code := 0#8, payload := [] }

/-- A state in which the Engine serves a request whose claim waits at its owner. -/
def serving (c : Claim) (s : State) : State := { s with re := some { request := asked, phase := .claim c } }

/-- A state in which the Engine serves a request in some phase. -/
def inPhase (p : Phase) (s : State) : State := { s with re := some { request := asked, phase := p } }

/-- The controller of channel 1 changed. -/
def sc1 (f : Supply → Supply) (s : State) : State := s.setSc 1 (f (s.scAt 1))

/-- The quantizer of channel 1 changed. -/
def cq1 (f : Quantizer → Quantizer) (s : State) : State := s.setCq 1 (f (s.cqAt 1))

/-- Prices: tariff 0 costs 300 in every band, with a standing charge of 600. -/
def priced (s : State) : State :=
  { s with tu := { s.tu with active :=
      { prices := Vector.replicate 4 (Vector.replicate 4 300#16), standing := Vector.replicate 4 600#32 } } }

/-- The Retention Unit changed. -/
def ru (f : Retention → Retention) (s : State) : State := { s with ru := f s.ru }

/-- A copy directory of blank copies. -/
def blankDirectory : PerItem DirectoryEntry where
  accounts := Vector.replicate 32 { a := .blank, b := .blank, latest := none }
  tariff := { a := .blank, b := .blank, latest := none }
  settings := { a := .blank, b := .blank, latest := none }

/-- A part at a stage of restore. -/
def restoring (stage : RestoreStage) (s : State) : State :=
  { s with
    ru := { s.ru with power := .restoring, stage := stage, directory := some blankDirectory }
    sc := Vector.replicate 8 (.reset false false) }

/-- A good copy of an item. -/
def goodCopy (serial : BitVec 32) (content : List Byte) : NvCopy :=
  .image serial content (crc16 (le32 serial ++ content))

/-! ## Ill-formed commands (log 1) -/

theorem test_ill_formed_owner : (Instr.readDevice .tariff).WellFormed = false := by decide
theorem test_ill_formed_raise : (Instr.causeRaise .tariff).WellFormed = false := by decide
theorem test_ill_formed_dirtying : (Instr.dirtying .levy).WellFormed = false := by decide
theorem test_ill_formed_part : (Instr.snapshotPart .retention).WellFormed = false := by decide
theorem test_ill_formed_stop : (Instr.stop .levy).WellFormed = false := by decide
theorem test_ill_formed_request : (Instr.requestFrame (.frame [0x46#8])).WellFormed = false := by decide
theorem test_ill_formed_fetch : (Instr.fetchFrame (.frame [0x51#8])).WellFormed = false := by decide
theorem test_ill_formed_bad_type :
    (Instr.badTypeFrame (.frame [0x51#8])).WellFormed = false ∧ (Instr.badTypeFrame (.frame [])).WellFormed = false := by
  decide
theorem test_ill_formed_empty :
    (Instr.emptyFrame (.frame [0x00#8])).WellFormed = false ∧ (Instr.emptyFrame (.byte 0#8)).WellFormed = false := by
  decide
theorem test_ill_formed_wait : (Instr.waitDeassertEnd .csnAsserts).WellFormed = false := by decide
theorem test_ill_formed_timed_out : (Instr.timedOutFrameEnd (.frame [])).WellFormed = false := by decide
theorem test_ill_formed_faults : exec (.stop .levy) running = .fault .illFormed := rfl
theorem test_no_row_has_bits : decodeTableWord 8 0x51 = none := rfl

/-! ## Check words -/

/-- R11: the check value of the CRC-16. -/
theorem test_crc16 : crc16 [0x31, 0x32, 0x33, 0x34, 0x35, 0x36, 0x37, 0x38, 0x39] = 0x29B1#16 := by decide +kernel

/-- R166: the check value of the CRC-8. -/
theorem test_crc8 : crc8 [0x31, 0x32, 0x33, 0x34, 0x35, 0x36, 0x37, 0x38, 0x39] = 0xF4#8 := by decide +kernel

/-! ## The host link (9.3.1, R162 to R170) -/

/-- A request frame: type, tag, code, length, payload and check byte. -/
def frameOf (tag code : Byte) (payload : List Byte) : List Byte :=
  let bytes := [0x51#8, tag, code, count8 payload.length] ++ payload
  bytes ++ [crc8 bytes]

theorem test_request_frame :
    (after (.requestFrame (.frame (frameOf 1#8 0x01#8 []))) running).hl.requests
      = [{ tag := 1#8, code := 0x01#8, payload := [] }] := by decide +kernel
theorem test_request_frame_altered :
    (after (.requestFrame (.frame [0x51#8, 0x03#8, 0x01#8, 0x00#8, 0x00#8])) running).hl.result = .badCheck := by
  decide +kernel
theorem test_bad_type_frame :
    (after (.badTypeFrame (.frame [0x00#8, 0x01#8])) running).hl.result = .badType := by decide +kernel
/-- R162: a frame without a byte records no result. -/
theorem test_empty_frame :
    (after (.emptyFrame (.frame [])) { running with hl := { running.hl with result := .badCheck } }).hl.result
      = .badCheck := by decide +kernel
/-- R169: the empty response has tag 0, code 0, outcome NONE and length 0. -/
theorem test_fetch_frame :
    ((after (.fetchFrame (.frame [0x46#8, 0, 0, 0, 0, 0])) running).hl.sent.drop 1).take 4
      = [0x00#8, 0x00#8, 0xFF#8, 0x00#8] := by decide +kernel
/-- R165, Table 10-4: READY and REQ_ROOM in RUN with both queues empty. -/
theorem test_status_byte : (after (.emptyFrame .csnAsserts) running).hl.status = 0xA0#8 := by decide +kernel
theorem test_gap_timer :
    (after .gapTimerExpiry (after (.emptyFrame .csnAsserts) running)).hl.frame = .discard .timeout := by
  decide +kernel
/-- R165, R161: after a gap expiry within byte 0 the status byte still goes out, its first bits as they are clocked. -/
theorem test_timed_out_status :
    let d := after .gapTimerExpiry (after (.emptyFrame .csnAsserts) running)
    ((after (.timedOutFrameEnd (.byte 0#8)) d).hl.sent, (after (.timedOutFrameEnd (.clock true)) d).hl.misoBits)
      = ([0xA0#8], [true]) := by decide +kernel
theorem test_timed_out_frame :
    (after (.timedOutFrameEnd .csnDeasserts)
      { running with hl := { running.hl with frame := .discard .timeout } }).hl.result = .timeout := by
  decide +kernel
theorem test_wait_deassert :
    (after (.waitDeassertEnd .csnDeasserts) { running with hl := Link.reset true }).hl.frame = .idle := by
  decide +kernel
/-- R174: a TOP_UP of amount 0 is refused with BAD_ARGUMENT. -/
theorem test_request_take :
    answerOf (after .requestTake { running with hl := { running.hl with requests :=
      [{ tag := 1#8, code := 0x20#8, payload := [32, 0, 9, 0, 0, 0, 0, 0, 0, 0] }] } })
      = some (.badArgument, []) := by decide +kernel
theorem test_response_queue :
    (after .responseQueue (inPhase (.answered { outcome := .ok, payload := [1#8] }) running)).hl.responses
      = [{ tag := 7#8, code := 0#8, outcome := .ok, payload := [1#8] }] := by decide +kernel

/-! ## Account requests -/

/-- 11.1: slots 0 to 5 are in use and slot 6 is FREE with generation counter 4; the handle is 5 times 32 plus 6. -/
theorem test_open :
    let s := { table.setSlot 6 (freeForm 6 4#11) with store := { (table.setSlot 6 (freeForm 6 4#11)).store with
      openSerial := 26#32 } }
    answerOf (after .openAccount (serving (.openAccount
        { channel := 2, reference := ref 9, tariff := 0#8, threshold := 1000#32, allowance := 300#32
          opening := 1200#32 }) s))
      = some (.ok, [166, 0, 3, 27, 0, 0, 0, 1]) := by decide +kernel
/-- R30: an opening balance at or below 0 with an allowance gives EXHAUSTED and AVAILABLE. -/
theorem test_open_exhausted :
    let b := (after .openAccount (serving (.openAccount
        { channel := 2, reference := ref 9, tariff := 0#8, threshold := 1000#32, allowance := 300#32
          opening := 0#32 }) table)).bodyAt 6
    (b.credit, b.emergency) = (4#8, 2#8) := by decide +kernel
/-- R19, Table 10-6: the handle, WAITING, channel 1, a verified record, no other record with the reference. -/
theorem test_lookup :
    answerOf (after .lookup (serving (.lookup (ref 2)) table)) = some (.ok, [33, 0, 2, 1, 0, 0]) := by decide +kernel
/-- 1.1.2: a handle of another generation does not resolve. -/
theorem test_read_account :
    answerOf (after .readAccount (serving (.readAccount 64#16) table)) = some (.noSuchAccount, []) := by
  decide +kernel
/-- R21: from slot 5 one slot is in use, and the resume slot is 32. -/
theorem test_survey :
    answerOf (after .survey (serving (.survey 5) table))
      = some (.ok, [1, 5, 37, 0, 6, 0, 0, 0, 0, 0, 0, 0, 0, 0, 0, 32]) := by decide +kernel
/-- 2.2.3, R33: the close of the occupant promotes the waiting account. -/
theorem test_close :
    let t := after .close (serving (.close 32#16 none) table)
    (t.lifeAt 0, t.lifeAt 1, t.listAt 1) = (.settled, .live, [33#16]) := by decide +kernel
/-- R32: the close of a waiting account leaves the occupant in its place. -/
theorem test_close_waiting :
    let t := after .close (serving (.close 33#16 none) table)
    (t.lifeAt 0, t.lifeAt 1, t.listAt 1, answerOf t)
      = (.live, .settled, [32#16], some (.ok, [0xBC, 2, 0, 0, 1, 0, 0, 0])) := by decide +kernel
theorem test_release :
    let t := after .release (serving (.release 34#16) table)
    (t.lifeAt 2, (t.slotAt 2).counter, answerOf t)
      = (.free, 1#11, some (.ok, [40, 0, 0, 0, 40, 0, 0, 0])) := by decide +kernel
theorem test_rewrite :
    let t := after .rewrite (serving (.rewrite
      { handle := 36#16, target := .settled, channel := 4, reference := ref 6, tariff := 1#8, threshold := 5#32
        allowance := 0#32, expected := none }) table)
    (t.lifeAt 4, (t.bodyAt 4).version, (t.bodyAt 4).emergency) = (.settled, 1#16, 1#8) := by decide +kernel
/-- R24, R36, R37: a quarantined account of another channel joins by open serial; IN_USE becomes AVAILABLE. -/
theorem test_rewrite_waiting :
    let t := after .rewrite (serving (.rewrite
      { handle := 38#16, target := .waiting, channel := 1, reference := ref 9, tariff := 1#8, threshold := 5#32
        allowance := 500#32, expected := none }) crossed)
    (t.lifeAt 6, t.listAt 1, t.listAt 2, (t.bodyAt 6).emergency, (t.bodyAt 6).vouchers)
      = (.waiting, [32#16, 38#16, 33#16], [], 2#8, [1#32, 2#32]) := by decide +kernel
/-- R27, R38: the successor is promoted with its emergency status SPENT kept, though its balance is above 0. -/
theorem test_discard_promotes :
    let t := after .discard (serving (.discard 35#16) crossed)
    (t.lifeAt 7, (t.bodyAt 7).emergency, (t.bodyAt 7).credit, t.listAt 3) = (.live, 4#8, 2#8, [39#16]) := by
  decide +kernel
theorem test_discard :
    let t := after .discard (serving (.discard 35#16) table)
    (t.lifeAt 3, t.listAt 3, (t.scAt 3).notices) = (.free, [], [.vacant]) := by decide +kernel
/-- R15: a LOST account is answered WRONG_STATE. -/
theorem test_top_up_lost :
    answerOf (after .topUp (serving (.topUp
      { handle := 37#16, voucher := 9#32, amount := 5#32, expected := none }) table)) = some (.wrongState, []) := by
  decide +kernel
/-- 3.3.4: the top-up of 2,000 at a balance of -200 that ends a spent emergency. -/
theorem test_top_up :
    let b := { account 1 1 (creditCode .exhausted) (-200) with emergency := emergencyCode .spent, version := 1#16 }
    answerOf (after .topUp (serving (.topUp
      { handle := 32#16, voucher := 9#32, amount := 2000#32, expected := none }) (holding 0 .live b table)))
      = some (.ok, [0x08, 0x07, 0, 0, 2, 0, 1, 2]) := by decide +kernel
/-- R43, R65: a top-up that leaves a restored balance below BAL_MIN is refused. -/
theorem test_top_up_below :
    answerOf (after .topUp (serving (.topUp
      { handle := 32#16, voucher := 9#32, amount := 2000#32, expected := none })
        (holding 0 .live (account 1 1 4#8 (-2000002001)) table))) = some (.limitExceeded, []) := by decide +kernel
theorem test_adjust :
    answerOf (after .adjust (serving (.adjust
      { handle := 32#16, expected := 0#16, amount := BitVec.ofInt 32 (-200) }) table))
      = some (.ok, [0xE8, 0x03, 0, 0, 1, 0, 2, 2]) := by decide +kernel
/-- R61: an allowance of 0 makes the status NONE. -/
theorem test_set_limits :
    answerOf (after .setLimits (serving (.setLimits
      { handle := 32#16, tariff := 0#8, threshold := 2000#32, allowance := 0#32, expected := none }) table))
      = some (.ok, [1, 0, 2, 1]) := by decide +kernel

/-! ## Tariffs and the levy -/

theorem test_set_band :
    (after .setBand (serving (.setBand 2) running)).tu.band = 2 := by decide +kernel
theorem test_set_price :
    let t := after .setPrice (serving (.setPrice 1 2 77#16) running)
    (t.tu.shadow.prices[1][2], t.tu.active.prices[1][2]) = (77#16, 0#16) := by decide +kernel
theorem test_set_standing :
    answerOf (after .setStanding (serving (.setStanding 3 258#32) running))
      = some (.ok, [0, 0, 0, 0, 2, 1, 0, 0]) := by decide +kernel
/-- R70: the last byte says that the two banks differ. -/
theorem test_read_tariff :
    (answerOf (after .readTariff (serving (.readTariff true 0) (priced running)))).map (fun x => x.2.drop 8)
      = some [0x58, 0x02, 0, 0, 0, 1] := by decide +kernel
theorem test_commit_tariffs :
    (after .commitTariffs (serving .commitTariffs (priced running))).tu.active = Bank.zero := by decide +kernel
theorem test_levy :
    (after .levy (serving (.levy 77#16) running)).le.claim = some { number := 77#16, cursor := 0 } := by
  decide +kernel
theorem test_cancel_levy :
    answerOf (after .cancelLevy (serving .cancelLevy running)) = some (.wrongState, []) := by decide +kernel
/-- 11.3: a standing charge of 600. -/
theorem test_levy_claim :
    let t := after .levyClaim { priced table with le :=
      { table.le with claim := some { number := 77#16, cursor := 0 } } }
    ((t.bodyAt 0).balance, (t.bodyAt 0).lastLevy, t.le.result) = (600#32, 77#16, some (.charged 0)) := by
  decide +kernel
/-- 11.3: slot 8 is charged as the third account, and the cursor becomes 9. -/
theorem test_levy_result :
    (after .levyResult { running with le :=
      { walk := .walking { number := 77#16, cursor := 6, charged := 2, already := 1 }, claim := none
        result := some (.charged 8), last := none } }).le.walk
      = .walking { number := 77#16, cursor := 9, charged := 3, already := 1 } := by decide +kernel

/-! ## Metering -/

theorem test_configure_channel :
    answerOf (after .configureChannel (serving (.configureChannel 1
      { divisor := 2, window := 3600, timeout := 20, reconnect := true, reclose := false }) running))
      = some (.ok, [0, 0, 2, 0, 0x10, 0x0E, 20, 0, 1, 0]) := by decide +kernel
theorem test_read_channel :
    answerOf (after (.readChannel .supply) (inPhase (.channel 1 (some [9#8]) none) running))
      = some (.ok, [9, 0, 1, 0, 0, 0]) := by decide +kernel
/-- R97: two quanta at 300. -/
theorem test_bill_unbilled :
    let s := { priced table with store := { table.store with
      billing := some { channel := 1, slot := 0, count := some 2 } } }
    answerOf (after .billUnbilled (serving (.billUnbilled 1 32#16) s))
      = some (.ok, [2, 0, 0x58, 0x02, 0, 0, 0x58, 0x02, 0, 0, 2, 2, 0]) := by decide +kernel
theorem test_unbilled_count_take :
    let t := after (.unbilledCountTake 1) (cq1 (fun q => { q with unbilled := 9 }) { table with store :=
      { table.store with billing := some { channel := 1, slot := 0, count := none } } })
    ((t.cqAt 1).unbilled, t.store.billing) = (0, some { channel := 1, slot := 0, count := some 9 }) := by
  decide +kernel
/-- R88: with a divisor of 1 the pulse is a quantum. -/
theorem test_pulse_event :
    let q := (after (.pulseEvent 1) (cq1 (fun q => { q with recogniser := .qualifying 1 }) running)).cqAt 1
    (q.debits, q.accumulation) = (1, .idle) := by decide +kernel
theorem test_pulse_edge :
    ((after (.pulseRecogniserEdge 1 true) (cq1 (fun q => { q with recogniser := .waitAssert }) running)).cqAt 1).recogniser
      = .qualifying 0 := by decide +kernel
theorem test_window_timer :
    let q := (after (.windowTimerExpiry 1)
      (cq1 (fun q => { q with accumulation := .accumulating 3 1, creep := 65535 }) running)).cqAt 1
    (q.accumulation, q.creep) = (.idle, 65535) := by decide +kernel
/-- 3.3.4: the first quantum debit, at a price of 300. -/
theorem test_quantum_debit :
    let t := after (.quantumDebit 1) (cq1 (fun q => { q with debits := 1 }) (priced table))
    ((t.bodyAt 0).balance, (t.bodyAt 0).credit, (t.bodyAt 0).quanta, t.au.inbox)
      = (900#32, 2#8, 1#32, [.raised .store (.slot 0 .lowCredit)]) := by decide +kernel
/-- 3.3.4: the debit at -300 with the emergency in use reaches -600, past the allowance of 500. -/
theorem test_quantum_debit_spends :
    let b := { account 1 1 (creditCode .emergency) (-300) with emergency := emergencyCode .inUse }
    let t := after (.quantumDebit 1) (cq1 (fun q => { q with debits := 1 }) (priced (holding 0 .live b table)))
    ((t.bodyAt 0).balance.toInt, (t.bodyAt 0).credit, (t.bodyAt 0).emergency) = (-600, 4#8, 4#8) := by
  decide +kernel
/-- R91: the count reaches 65,535 and UNBILLED_FULL is raised. -/
theorem test_debit_result :
    let t := after (.debitResult 1) (cq1 (fun q => { q with unbilled := 65534, results := [.refused] }) running)
    ((t.cqAt 1).unbilled, t.au.inbox) = (65535, [.raised (.quantizer 1) (.channel 1 .unbilledFull)]) := by
  decide +kernel

/-! ## Supply -/

theorem test_set_hold :
    ((after (.setHold 1) (inPhase (.hold 0x02#8 true (Vector.replicate 8 none)) running)).scAt 1).hold = true := by
  decide +kernel
/-- R116: remote reconnect is not allowed. -/
theorem test_reconnect :
    answerOf (after .reconnect (serving (.reconnect 1) (sc1 (fun c => { c with state := .armed }) running)))
      = some (.wrongState, [2]) := by decide +kernel
theorem test_clear_fault :
    answerOf (after .clearFault (serving (.clearFault 1)
      (sc1 (fun c => { c with state := .fault .stuckClosed }) running))) = some (.ok, [1, 0]) := by decide +kernel
/-- 11.1: the notice of EXHAUSTED opens a closed channel. -/
theorem test_notice :
    let c := (after (.notice 1) (sc1 (fun c => { c with
      state := .closed, drive := true, feedback := true, notices := [.live 32#16 (some .exhausted) (some .available)] })
      running)).scAt 1
    (c.state, c.drive, c.timer) = (.opening, false, some 250) := by decide +kernel
/-- 11.1: FBK asserts in CLOSING for an occupant in NORMAL. -/
theorem test_feedback_event :
    ((after (.feedbackEvent 1 true) (sc1 (fun c => { c with
      state := .closing, drive := true, timer := some 9, view := .live 163#16 (some .normal) (some .available) })
      running)).scAt 1).state = .closed := by decide +kernel
theorem test_operation_timer :
    ((after (.operationTimerExpiry 1) (sc1 (fun c => { c with state := .closing, drive := true, timer := some 1 })
      running)).scAt 1).state = .fault .failToClose := by decide +kernel
/-- R107: a timer that does not run does not expire. -/
theorem test_stale_expiry :
    let s := sc1 (fun c => { c with state := .opening }) running
    after (.operationTimerExpiry 1) s = s := by decide +kernel
theorem test_press :
    let c := (after (.press 1) (sc1 (fun c => { c with state := .armed, button := .qualifying 40 }) running)).scAt 1
    (c.state, c.drive) = (.closing, true) := by decide +kernel
theorem test_button_edge :
    ((after (.buttonRecogniserEdge 1 false) (sc1 (fun c => { c with button := .qualifying 39 }) running)).scAt 1).button
      = .waitAssert := by decide +kernel
/-- R55: an engagement in LOW leaves LOW and raises no cause. -/
theorem test_emergency_engage :
    let s := sc1 (fun c => { c with engage := some { handle := 32#16, fromClosed := false, answer := none } })
      (holding 0 .live (account 1 1 (creditCode .low) 900) table)
    let t := after (.emergencyEngage 1) s
    ((t.bodyAt 0).emergency, (t.bodyAt 0).credit, t.au.inbox) = (3#8, 2#8, []) := by decide +kernel
/-- 6.9: the result TAKEN with EMERGENCY begins CLOSING. -/
theorem test_engage_result :
    ((after (.engageResult 1) (sc1 (fun c => { c with
      view := .live 32#16 (some .exhausted) (some .available)
      engage := some { handle := 32#16, fromClosed := false, answer := some (.taken (some .emergency) (some .inUse)) } })
      running)).scAt 1).state = .closing := by decide +kernel

/-! ## The attention list -/

theorem test_fetch_attention :
    answerOf (after .fetchAttention (serving .fetchAttention { running with au := { running.au with
      list := [{ subject := .slot 12, causes := 3#8 }, { subject := .channel 6, causes := 1#8 }], attn := true } }))
      = some (.ok, [1, 1, 12, 3, 2]) := by decide +kernel
/-- 8.8: the last acknowledgement empties the list and deasserts ATTN. -/
theorem test_ack_attention :
    (after .ackAttention (serving (.ackAttention (.slot 12) 1#8) { running with au := { running.au with
      list := [{ subject := .slot 12, causes := 1#8 }], attn := true } })).au.attn = false := by decide +kernel
theorem test_set_attention_mask :
    (after .setAttentionMask (serving (.setAttentionMask { slot := 1#8, channel := 2#8, device := 4#8 }) running)).au.mask
      = { slot := 1#8, channel := 2#8, device := 4#8 } := by decide +kernel
/-- 8.8: a cause joins the entry of its subject, which keeps its place. -/
theorem test_cause_raise :
    (after (.causeRaise .store) { running with au := { running.au with
      list := [{ subject := .slot 12, causes := 1#8 }, { subject := .channel 6, causes := 1#8 }], attn := true
      inbox := [.raised .store (.slot 12 .exhausted)] } }).au.list
      = [{ subject := .slot 12, causes := 3#8 }, { subject := .channel 6, causes := 1#8 }] := by decide +kernel
theorem test_slot_entry_removal :
    (after .slotEntryRemoval { running with au := { running.au with
      list := [{ subject := .slot 12, causes := 1#8 }], attn := true, inbox := [.removed 12] } }).au.list = [] := by
  decide +kernel

/-! ## Retention -/

theorem test_identify :
    answerOf (after .identify (serving .identify running))
      = some (.ok, [0x17, 0x8A, 0x00, 1, 1, 32, 8, 4, 4, 96]) := by decide +kernel
theorem test_read_device :
    answerOf (after (.readDevice .store) (inPhase (.device (some ([1#8], [2#8])) (some [3#8]) none) running))
      = some (.ok, [1, 0, 0, 0, 0, 3, 2]) := by decide +kernel
theorem test_soft_reset :
    (after .softReset (serving .softReset running)).ru.power = .draining := by decide +kernel
theorem test_dirtying :
    (after (.dirtying .store) (ru (fun r => { r with inbox := [(.store, .account 3)] }) running)).ru.engine
      = .snapshot (.account 3 none) := by decide +kernel
theorem test_commit_take :
    (after .commitTake (ru (fun r => { r with queue := [.tariff, .settings] }) running)).ru.queue = [.settings] := by
  decide +kernel
/-- R9, Table 10-8: the serialised form of a FREE slot is 61 bytes. -/
theorem test_snapshot_claim :
    (match (after .snapshotClaim (ru (fun r => { r with engine := .snapshot (.account 6 none) }) running)).ru.engine with
      | .snapshot (.account _ (some bytes)) => bytes.length
      | _ => 0) = 61 := by decide +kernel
theorem test_snapshot_part :
    (after (.snapshotPart .tariff) (ru (fun r => { r with engine := .snapshot (.tariff none) }) running)).ru.engine
      = .snapshot (.tariff (some Bank.zero)) := by decide +kernel
/-- 1.4, R17: the Store gives no part of a snapshot while a BILL_UNBILLED is partly done. -/
theorem test_snapshot_part_waits :
    let g : Gathering := .settings none none (Vector.replicate 8 none) (Vector.replicate 8 none)
    (after (.snapshotPart .store) (ru (fun r => { r with engine := .snapshot g }) { table with store :=
      { table.store with billing := some { channel := 1, slot := 0, count := none } } })).ru.engine = .snapshot g := by
  decide +kernel
/-- R130: the first write of an item goes to copy A, with the next commit serial. -/
theorem test_write_start :
    (match (after .writeStart (ru (fun r => { r with
        directory := some blankDirectory, commitSerial := 8#32, engine := .snapshot (.tariff (some Bank.zero)) })
        running)).ru.engine with
      | .writing w => (w.copy, w.serial)
      | _ => (.b, 0#32)) = (.a, 9#32) := by decide +kernel
/-- R131: a copy that does not read back as written counts one write fault and dirties the item again. -/
theorem test_write_completion :
    let t := after (.writeCompletion (some .torn)) (ru (fun r => { r with
      directory := some blankDirectory
      engine := .writing { item := .tariff, copy := .a, serial := 1#32, content := [], elapsed := 2 } }) running)
    (t.ru.writeFaults, t.ru.engine) = (1, .snapshot (.tariff none)) := by decide +kernel
theorem test_pfw_event :
    let t := after (.pfwEvent true) running
    (t.ru.power, t.au.inbox) = (.holdup, [.raised .retention (.device .powerWarn)]) := by decide +kernel
theorem test_drain_complete :
    (after .drainComplete (ru (fun r => { r with power := .draining }) running)).ru.stop.isSome = true := by
  decide +kernel
theorem test_stop :
    ((after (.stop .store) (ru (fun r => { r with power := .draining, stop := some .none }) running)).ru.stop.map
      (·.store)) = some true := by decide +kernel

/-! ## Resets and restore -/

/-- Every block has answered the stop. -/
def allStopped : StopAnswers where
  store := true
  tariff := true
  quantizers := Vector.replicate 8 true
  supplies := Vector.replicate 8 true

/-- A first sample with every input deasserted. -/
def quietSample : FirstSample := { fbk := 0#8, pfw := false, csn := false }

theorem test_soft_reset_effect :
    let t := after (.softResetEffect quietSample) (ru (fun r => { r with power := .draining, stop := some allStopped })
      running)
    (t.ru.power, t.ru.kind) = (.restoring, .soft) := by decide +kernel
/-- R121: a pin reset keeps the drive latch, a power-on reset deasserts it. -/
theorem test_pin_reset :
    let s := sc1 (fun c => { c with drive := true }) running
    (((after (.pinReset .torn quietSample) s).scAt 1).drive, ((after (.powerOnReset .torn quietSample) s).scAt 1).drive)
      = (true, false) := by decide +kernel
/-- R125: of two valid copies the one with the higher serial is the latest. -/
theorem test_classify_copies :
    ((after .classifyCopies (restoring .classify (ru (fun r => { r with array := { blankArray with tariff :=
        { a := goodCopy 4#32 (tariffBytes Bank.zero), b := goodCopy 5#32 (tariffBytes Bank.zero) } } }) running))).ru.directory.map
      fun d => d.tariff.latest) = some (some .b) := by decide +kernel
theorem test_load_settings :
    ((after .loadSettingsAndTariff (restoring .settings running)).cqAt 1).config = ChannelConfig.default := by
  decide +kernel
theorem test_restore_load :
    let d := blankDirectory.put (.account 6) { a := .invalid, b := .blank, latest := none }
    let t := after .restoreLoad (ru (fun r => { r with directory := some d }) (restoring (.accounts 6) running))
    (t.lifeAt 6, (t.slotAt 6).generation, t.ru.tally.lost) = (.lost, 1#11, 1) := by decide +kernel
/-- R5, R141: a BLANK item writes the FREE form over a damaged FREE slot. -/
theorem test_restore_load_blank :
    let t := after .restoreLoad (restoring (.accounts 6) (running.setSlot 6 { freeForm 6 4#11 with word := 1#16 }))
    (t.slotAt 6, t.ru.tally.blank) = (freeForm 6 4#11, 1) := by decide +kernel
/-- R142: of two accounts with one reference the older is quarantined. -/
theorem test_reference_conflicts :
    let t := after .referenceConflicts (restoring .references
      (holding 1 .waiting { account 1 2 0#8 700 with reference := ref 1 } table))
    (t.lifeAt 0, t.lifeAt 1) = (.quarantined .settled, .waiting) := by decide +kernel
theorem test_occupancy_conflicts :
    (after .occupancyConflicts (restoring .occupancy table)).listAt 1 = [32#16, 33#16] := by decide +kernel
theorem test_restore_promotion :
    (after .restorePromotion (restoring .promotion
      (holding 0 .settled { account 1 1 0#8 0 with closing := some { balance := 0#32, reason := 1#8 } }
        (table.setList 1 [33#16])))).lifeAt 1 = .live := by decide +kernel
/-- R144: of four bound accounts the newest is quarantined and unbound. -/
theorem test_capacity_check :
    let t := after .restorePromotion (restoring .promotion overfull)
    (t.lifeAt 9, t.lifeAt 8, t.listAt 1) = (.quarantined .settled, .waiting, [32#16, 33#16, 40#16]) := by
  decide +kernel
theorem test_restore_summary :
    (after .restoreSummary (restoring .summary table)).store.openSerial = 5#32 := by decide +kernel
/-- R122: drive kept and contacts closed after a pin reset. -/
theorem test_adopt :
    ((after (.adopt 1) (ru (fun r => { r with kind := .pin }) (sc1 (fun c => { c with
      adopt := true, drive := true, feedback := true, view := .live 32#16 (some .normal) (some .none) })
      (restoring .adoption running)))).scAt 1).state = .closed := by decide +kernel
theorem test_end_of_restore :
    (after .endOfRestore (ru (fun r => { r with power := .restoring, stage := .adoption, pfw := true }) running)).ru.power
      = .holdup := by decide +kernel


/-! ## Witnesses: lemmas -/

/-- Whether an outcome is a next state. -/
def isNext : Result → Bool
  | .next _ => true
  | .fault _ => false
  | .refused _ => false

theorem next_of {o : Result} (h : isNext o = true) : ∃ t, o = .next t := by
  cases o with
  | next t => exact ⟨t, rfl⟩
  | fault _ => cases h
  | refused _ => cases h

theorem integrity_congr {s t : State} (h : t.store = s.store) (hs : s.IntegrityLaw) : t.IntegrityLaw := fun i => by
  rw [intactAt_congr h]; exact hs i

theorem integrity_slots {s t : State} (h : ∀ i, t.slotAt i = s.slotAt i) (hs : s.IntegrityLaw) : t.IntegrityLaw :=
  fun i => by rw [State.intactAt, h i]; exact hs i

theorem integrity_holding (i : Slot) (life : Life) (b : Body) {s : State} (hs : s.IntegrityLaw) :
    (holding i life b s).IntegrityLaw := fun j => by
  rw [State.intactAt, holding, State.putRecord_slotAt]
  split
  · rename_i h; subst h; exact SlotState.sealed_intact _ i
  · exact hs j

theorem running_integrity : running.IntegrityLaw := fun i => by
  have h : running.slotAt i = freeForm i 0#11 := by simp [running, State.reset, Store.reset, State.slotAt]
  rw [State.intactAt, h]; exact freeForm_intact i _

theorem table_integrity : table.IntegrityLaw :=
  integrity_slots (fun _ => rfl) <| integrity_holding 5 _ _ <| integrity_holding 4 _ _ <| integrity_holding 3 _ _ <|
    integrity_holding 2 _ _ <| integrity_holding 1 _ _ <| integrity_holding 0 _ _ running_integrity

theorem peopled_integrity (accounts : List (Slot × Life × Body)) (lists : Vector (List Handle) 8) :
    (peopled accounts lists).IntegrityLaw := fun i => by
  simp only [State.intactAt, State.slotAt, peopled, Vector.getElem_ofFn, Fin.getElem_fin, Fin.eta]
  split
  · exact SlotState.sealed_intact _ i
  · exact freeForm_intact i _

/-! ## Witnesses: the step and the laws of every state -/

/-- Four requests wait, and the Engine may take one. -/
def crowded : State :=
  { running with hl := { running.hl with
      requests := List.replicate 4 { tag := 1#8, code := 1#8, payload := [] }
      responses := List.replicate 3 { tag := 1#8, code := 1#8, outcome := .ok, payload := [] } } }

/-- The expiry of an opening's timer and the tenth low sample of FBK meet at the next count. -/
def meeting : State :=
  sc1 (fun c => { c with state := .opening, feedback := true, feedbackRun := 9, timer := some 1 }) running

theorem witness_TimeBaseFeedsTheQueue :
    (∃ t, exec (.pfwEvent true) running = .next t)
      ∧ (crowded.pending = [] ∧ crowded.due = some .requestTake)
      ∧ (running.pending = [] ∧ running.due = none)
      ∧ (meeting.pending = [] ∧ meeting.due = none)
      ∧ (match step meeting with
        | .next t => (t.pending.contains (.feedbackEvent 1 false), t.pending.contains (.operationTimerExpiry 1))
        | .fault _ => (false, true)
        | .refused _ => (false, true)) = (true, false) :=
  ⟨⟨_, rfl⟩, by decide +kernel⟩

theorem witness_StepKeepsQueueLaw : crowded.QueueLaw ∧ ∃ t, step crowded = .next t :=
  ⟨⟨by decide, by decide, by decide⟩, next_of (by decide +kernel)⟩

/-- An entry is held and a raise waits. -/
def attentive : State :=
  { running with au := { running.au with
      list := [{ subject := .slot 12, causes := 1#8 }], attn := true, inbox := [.raised .store (.slot 12 .exhausted)] } }

theorem witness_StepKeepsAttentionLaw : attentive.AttentionLaw ∧ ∃ t, step attentive = .next t := by
  refine ⟨?_, next_of (by decide +kernel)⟩
  unfold State.AttentionLaw
  decide +kernel

theorem witness_StepKeepsDriveLaw : running.DriveLaw ∧ ∃ t, step running = .next t :=
  ⟨fun n => by fin_cases n <;> exact ⟨rfl, rfl⟩, next_of (by decide +kernel)⟩

theorem witness_StepKeepsCommitLaw :
    (ru (fun r => { r with queue := [.tariff, .account 3] }) running).CommitLaw
      ∧ ∃ t, step (ru (fun r => { r with queue := [.tariff, .account 3] }) running) = .next t := by
  refine ⟨?_, next_of (by decide +kernel)⟩
  unfold State.CommitLaw
  decide +kernel

theorem witness_StepKeepsIntegrityLaw : table.IntegrityLaw ∧ ∃ t, step table = .next t :=
  ⟨table_integrity, next_of (by decide +kernel)⟩

/-- An OPEN waits whose opening balance is the greatest. -/
def richOpen : OpenArgs :=
  { channel := 2, reference := ref 9, tariff := 0#8, threshold := 1000#32, allowance := 300#32
    opening := 100000000#32 }

theorem witness_CommandsKeepMoneyLaw :
    Instr.openAccount ≠ .restoreLoad
      ∧ (∀ a, (serving (.openAccount richOpen) table).claim = some (.openAccount a) →
          -100000000 ≤ a.opening.toInt ∧ a.opening.toInt ≤ 100000000)
      ∧ (serving (.openAccount richOpen) table).MoneyLaw
      ∧ ∃ t, exec .openAccount (serving (.openAccount richOpen) table) = .next t := by
  refine ⟨by decide, ?_, ?_, next_of (by decide +kernel)⟩
  · intro a h
    have : some (Claim.openAccount richOpen) = some (.openAccount a) := h
    cases this
    decide
  · unfold State.MoneyLaw Body.Conserved
    decide +kernel

theorem witness_VersionsCountHostChanges :
    (∃ t, exec (.quantumDebit 1) table = .next t) ∧ table.lifeAt 0 = .live
      ∧ ∀ cut first, Instr.quantumDebit 1 ≠ .powerOnReset cut first ∧ Instr.quantumDebit 1 ≠ .pinReset cut first
          ∧ Instr.quantumDebit 1 ≠ .softResetEffect first :=
  ⟨next_of (by decide +kernel), by decide +kernel, fun _ _ => ⟨nofun, nofun, nofun⟩⟩

/-- An ARMED channel whose button has been pressed long enough. -/
def pressed : State := sc1 (fun c => { c with state := .armed, button := .qualifying 40 }) running

theorem witness_ClosingBeginsOnlyOnRequest :
    exec (.press 1) pressed = .next (after (.press 1) pressed) ∧ (pressed.scAt 1).state = .armed
      ∧ ((after (.press 1) pressed).scAt 1).state = .closing := by
  refine ⟨?_, by decide +kernel⟩
  obtain ⟨t, h⟩ := next_of (o := exec (.press 1) pressed) (by decide +kernel)
  simp only [after, h]

/-- A SETTLED record with every enumerated field at the top of its range and four vouchers. -/
def fullSlot : SlotState :=
  { life := .settled, generation := 2047#11, counter := 2047#11, word := 0#16
    body := { account 7 9 4#8 (-2000000000) with
      tariff := 3#8, emergency := 4#8, flags := 1#8, vouchers := [1#32, 2#32, 3#32, 4#32]
      closing := some { balance := 5#32, reason := hostClose } } }

/-- A configuration at bounds of its ranges. -/
def fullConfig : ChannelConfig :=
  { divisor := 4096, window := 3600, timeout := 20, reconnect := true, reclose := true }

/-- Settings with every channel so configured. -/
def fullSettings : Settings := { Settings.default with configs := Vector.replicate 8 fullConfig }

theorem witness_ItemsReadBack :
    (fullSlot.life = .settled ∧ fullSlot.generation ≠ 0#11 ∧ fullSlot.body.channel ≤ 7#8
      ∧ fullSlot.body.tariff ≤ 3#8 ∧ fullSlot.body.credit ≤ 4#8 ∧ fullSlot.body.emergency ≤ 4#8
      ∧ fullSlot.body.flags ≤ 1#8 ∧ fullSlot.body.vouchers.length ≤ 4
      ∧ ∀ c ∈ fullSlot.body.closing, c.reason = hostClose)
    ∧ (∀ t : Tariff, ({ Bank.zero with standing := Vector.replicate 4 1000000#32 } : Bank).standing[t].toNat ≤ 1000000)
    ∧ ∀ n : Channel, fullSettings.configs[n].inRange = true := by
  decide +kernel

/-! ## Witnesses: the host link and the Request Engine -/

theorem witness_RequestFrameAdmitted :
    let s := { crowded with hl := { crowded.hl with requests := crowded.hl.requests.tail } }
    s.hl.frame = .idle ∧ 1#8 ≠ 0#8 ∧ (List.replicate 96 0#8).length ≤ 96 ∧ s.hl.requests.length < 4
      ∧ s.ru.power = .run := by decide +kernel

theorem witness_RequestFrameChecksInOrder :
    let s := after (.requestFrame (.byte 0x51#8)) (after (.requestFrame .csnAsserts) running)
    s.hl.frame = .request ∧ s.hl.shift = [] := by decide +kernel

theorem witness_FetchFrameDelivers :
    let r : Response := { tag := 1#8, code := 1#8, outcome := .ok, payload := [5#8] }
    let s := { crowded with hl := { crowded.hl with responses := List.replicate 4 r } }
    (s.hl.frame = .idle ∧ s.hl.responses = r :: List.replicate 3 r ∧ 5 + r.payload.length ≤ (List.replicate 6 0#8).length
      ∧ s.re = none ∧ s.ru.power = .run
      ∧ s.hl.requests = { tag := 1#8, code := 1#8, payload := [] } :: List.replicate 3 { tag := 1#8, code := 1#8, payload := [] })
    ∧ running.hl.frame = .idle ∧ running.hl.responses = [] := by decide +kernel

theorem witness_OtherFramesEnd :
    (running.hl.frame = .idle ∧ 0x00#8 ≠ 0x51#8 ∧ 0x00#8 ≠ 0x46#8)
      ∧ ({ running with hl := Link.reset true } : State).hl.frame = .waitDeassert
      ∧ (after (.emptyFrame .csnAsserts) running).hl.frame = .kind
      ∧ (after .gapTimerExpiry (after (.emptyFrame .csnAsserts) running)).hl.frame = .discard .timeout := by
  decide +kernel

theorem witness_StatusByteLoaded :
    running.hl.frame = .idle
      ∧ (let s := after (.emptyFrame .csnAsserts) running
        let six := { s with hl := { s.hl with shift := List.replicate 6 true } }
        s.hl.frame = .kind ∧ s.hl.shift.length < 7 ∧ six.hl.frame = .kind ∧ six.hl.shift.length < 7) := by
  decide +kernel

/-- A request of some code and payload waits, in some power state. -/
def waiting (power : Power) (code : Byte) (payload : List Byte) : State :=
  { running with
    ru := { running.ru with power := power }
    hl := { running.hl with
      requests := [{ tag := 1#8, code := code, payload := payload }]
      responses := List.replicate 3 { tag := 1#8, code := 1#8, outcome := .ok, payload := [] } } }

theorem witness_RequestTakenAndValidated :
    let s := waiting .holdup 0x13#8 [31#8]
    (s.re = none ∧ s.hl.responses.length < 4 ∧ s.ru.power = .holdup)
      ∧ requestKind 0x00#8 = none
      ∧ (requestKind 0x13#8 = some .survey ∧ [31#8, 0#8].length ∉ allowedLengths .survey)
      ∧ ([32#8].length ∈ allowedLengths .survey ∧ claimOf .survey [32#8] = none)
      ∧ (claimOf .survey [31#8] = some (.survey 31) ∧ changesState .survey = false)
      ∧ (claimOf .setBand [3#8] = some (.setBand 3) ∧ changesState .setBand = true)
      ∧ (claimOf .readTariff [0#8, 3#8] = none ∧ claimOf .readTariff [2#8, 3#8] = some (.readTariff false 3)
        ∧ claimOf .readTariff [3#8, 3#8] = none ∧ claimOf .levy [0#8, 0#8] = none
        ∧ claimOf .setHold [255#8, 2#8] = some (.setHold 255#8 false) ∧ claimOf .setHold [255#8, 0#8] = none)
      ∧ (claimOf .ackAttention [1#8, 31#8, 127#8] = some (.ackAttention (.slot 31) 127#8)
        ∧ claimOf .ackAttention [2#8, 7#8, 16#8] = none ∧ claimOf .ackAttention [3#8, 1#8, 1#8] = none)
      ∧ crowded.hl.requests ≠ [] ∧ running.hl.requests = [] := by decide +kernel

theorem witness_ResponseQueued :
    (inPhase (.answered { outcome := .ok, payload := [] }) running).re
      = some { request := asked, phase := .answered { outcome := .ok, payload := [] } } := rfl

/-! ## Witnesses: reading the table -/

theorem witness_HandlesResolve :
    table.storeTakes = true ∧ table.resolve 64#16 = none ∧ table.resolve 0xFFFF#16 = none ∧ table.resolve 31#16 = none
      ∧ (serving (.readAccount 64#16) table).Serves asked (.readAccount 64#16)
      ∧ (serving (.close 64#16 none) table).Serves asked (.close 64#16 none)
      ∧ (serving (.billUnbilled 1 64#16) table).Serves asked (.billUnbilled 1 64#16) :=
  ⟨by decide +kernel, by decide +kernel, by decide +kernel, by decide +kernel, rfl, rfl, rfl⟩

theorem witness_TableReadsAnswered :
    table.storeTakes = true ∧ table.IntegrityLaw
      ∧ (table.resolve 32#16 = some 0 ∧ table.intactAt 0 = true)
      ∧ (table.lifeAt 1 = .waiting ∧ (table.bodyAt 1).reference = ref 2
        ∧ ∀ j, j ≠ 1 → (table.bodyAt j).reference = ref 2 →
          table.lifeAt j ≠ .waiting ∧ table.lifeAt j ≠ .live ∧ table.lifeAt j ≠ .settled)
      ∧ (table.lifeAt 3 = .quarantined .live ∧ (table.bodyAt 3).reference = ref 4
        ∧ ∀ j, (table.bodyAt j).reference = ref 4 → j = 3)
      ∧ (∀ j, table.lifeAt j ≠ .free → (table.bodyAt j).reference ≠ ref 9)
      ∧ (serving (.lookup (ref 9)) table).Serves asked (.lookup (ref 9))
      ∧ (serving (.survey 31) table).Serves asked (.survey 31) :=
  ⟨by decide +kernel, table_integrity, by decide +kernel, by decide +kernel, by decide +kernel, by decide +kernel, rfl,
    rfl⟩

theorem witness_MismatchQuarantines :
    let s := serving (.readAccount 32#16) (damaged 0)
    s.Serves asked (.readAccount 32#16) ∧ s.storeTakes = true ∧ s.resolve 32#16 = some 0 ∧ s.intactAt 0 = false
      ∧ s.lifeAt 0 = .live ∧ s.ru.power = .run :=
  ⟨rfl, by decide +kernel⟩

/-! ## Witnesses: the account life cycle -/

/-- That no other list has slot j in front, from a check of each front. -/
theorem heads_of {s : State} {n : Channel} {j : Slot}
    (h : ∀ m, m ≠ n → (s.listAt m).head?.all (fun h => slotOf h != j) = true) :
    ∀ m hd tl, m ≠ n → s.listAt m = hd :: tl → slotOf hd ≠ j := by
  intro m hd tl hm hl
  have := h m hm
  simpa [hl] using this

theorem witness_OpenWritesTheRecord :
    let s := serving (.openAccount richOpen) table
    s.Serves asked (.openAccount richOpen) ∧ s.IntegrityLaw ∧ s.storeTakes = true ∧ s.lifeAt 6 = .free
      ∧ (∀ j : Slot, j < 6 → s.lifeAt j ≠ .free) ∧ s.store.openSerial ≠ 0xFFFFFFFF#32
      ∧ (∀ j, s.lifeAt j ≠ .free → s.lifeAt j ≠ .lost → (s.bodyAt j).reference ≠ richOpen.reference)
      ∧ (s.listAt richOpen.channel).length < 3 ∧ 6 ∉ (s.listAt richOpen.channel).map slotOf :=
  ⟨rfl, integrity_congr rfl table_integrity, by decide +kernel⟩

/-- Every slot of the table in use. -/
def fullTable : State :=
  { table with store := { table.store with slots := Vector.replicate 32 (table.slotAt 5) } }

theorem witness_OpenRefusedInOrder :
    table.IntegrityLaw ∧ (serving (.openAccount richOpen) table).Serves asked (.openAccount richOpen)
      ∧ (∀ j, fullTable.lifeAt j ≠ .free)
      ∧ table.lifeAt 6 = .free ∧ table.store.openSerial ≠ 0xFFFFFFFF#32
      ∧ (table.lifeAt 4 = .quarantined .settled ∧ (table.bodyAt 4).reference = ref 5)
      ∧ 3 ≤ ((table.setList 1 [32#16, 33#16, 34#16]).listAt 1).length :=
  ⟨table_integrity, rfl, by decide +kernel⟩

/-- The first checks of a request by handle meet, over the table and its damaged copies, a quarantined account, a LOST
one, and a record that fails its check in each. -/
theorem witness_unfit :
    (table.resolve 35#16 = some 3 ∧ table.lifeAt 3 = .quarantined .live ∧ table.intactAt 3 = true)
      ∧ (table.resolve 37#16 = some 5 ∧ table.lifeAt 5 = .lost ∧ table.intactAt 5 = true)
      ∧ ((damaged 1).resolve 33#16 = some 1 ∧ (damaged 1).intactAt 1 = false ∧ (damaged 1).lifeAt 1 = .waiting)
      ∧ ((damaged 3).resolve 35#16 = some 3 ∧ (damaged 3).intactAt 3 = false
        ∧ (damaged 3).lifeAt 3 = .quarantined .live)
      ∧ (let s := table.setSlot 5 { table.slotAt 5 with word := 1#16 }
        s.resolve 37#16 = some 5 ∧ s.intactAt 5 = false ∧ s.lifeAt 5 = .lost) := by
  decide +kernel

theorem witness_CloseSettlesTheAccount :
    (let s := serving (.close 32#16 (some 0#16)) table;
      s.Serves asked (.close 32#16 (some 0#16)) ∧ s.IntegrityLaw
        ∧ (∀ m hd tl, m ≠ 1 → s.listAt m = hd :: tl → slotOf hd ≠ 1) ∧ s.storeTakes = true ∧ s.resolve 32#16 = some 0
        ∧ s.lifeAt 0 = .live ∧ s.lifeAt 1 = .waiting ∧ (s.bodyAt 0).version = 0#16
        ∧ s.listAt 1 = [s.handleAt 0, s.handleAt 1] ∧ (∀ m, m ≠ 1 → s.handleAt 0 ∉ s.listAt m)
        ∧ (∀ m, m ≠ 1 → s.occupant m ≠ some 0 ∧ s.occupant m ≠ some 1))
    ∧ (stalled.IntegrityLaw ∧ stalled.lifeAt 0 = .live ∧ stalled.listAt 1 = stalled.handleAt 0 :: [33#16]
      ∧ (∀ g ∈ [33#16], stalled.lifeAt (slotOf g) = .quarantined .waiting)
      ∧ (∀ m, m ≠ 1 → stalled.handleAt 0 ∉ stalled.listAt m) ∧ ∀ m, m ≠ 1 → stalled.occupant m ≠ some 0)
    ∧ (table.lifeAt 1 = .waiting ∧ table.listAt 1 = 32#16 :: [table.handleAt 1] ∧ 32#16 ≠ table.handleAt 1
      ∧ table.resolve 33#16 = some 1 ∧ ∀ m, m ≠ 1 → table.handleAt 1 ∉ table.listAt m)
    ∧ (table.resolve 34#16 = some 2 ∧ table.lifeAt 2 = .settled ∧ table.intactAt 2 = true)
    ∧ (table.lifeAt 0 = .live ∧ table.intactAt 0 = true ∧ 1#16 ≠ (table.bodyAt 0).version) :=
  ⟨⟨rfl, integrity_congr rfl table_integrity, heads_of (by decide +kernel), by decide +kernel⟩,
    ⟨peopled_integrity _ _, by decide +kernel, by decide +kernel,
      List.forall_mem_singleton.mpr (by decide +kernel), by decide +kernel⟩,
    by decide +kernel⟩

theorem witness_ReleaseFreesTheSlot :
    let s := serving (.release 34#16) table
    s.Serves asked (.release 34#16) ∧ s.storeTakes = true ∧ s.resolve 34#16 = some 2 ∧ s.lifeAt 2 = .settled
      ∧ s.intactAt 2 = true :=
  ⟨rfl, by decide +kernel⟩

/-- A REWRITE of an account. -/
def mending (h : Handle) (target : Target) (n : Channel) : RewriteArgs :=
  { handle := h, target := target, channel := n, reference := ref 9, tariff := 3#8, threshold := 5#32
    allowance := 500#32, expected := some 0#16 }

theorem crossed_takes : crossed.storeTakes = true := by decide +kernel

/-- A REWRITE of an account of `crossed` passes its checks, from checks of its parts that the kernel evaluates. -/
theorem mending_passes {a : RewriteArgs} {i : Slot}
    (h : crossed.resolve a.handle = some i ∧ a.expected = some (crossed.bodyAt i).version
      ∧ (isQuarantined (crossed.lifeAt i) = true
          ∨ (crossed.lifeAt i = a.target.life ∧ (crossed.bodyAt i).channel = count8 a.channel.val))
      ∧ (∀ j, j ≠ i → crossed.lifeAt j ≠ .free → crossed.lifeAt j ≠ .lost → (crossed.bodyAt j).reference ≠ a.reference)
      ∧ (a.target = .live → crossed.occupant a.channel = none ∨ crossed.occupant a.channel = some i)
      ∧ (a.target ≠ .settled → a.handle ∈ crossed.listAt a.channel ∨ (crossed.listAt a.channel).length < 3)
      ∧ (-2000000000 ≤ (crossed.bodyAt i).balance.toInt ∧ (crossed.bodyAt i).balance.toInt ≤ 2000000000)
      ∧ (-100000000 ≤ (crossed.bodyAt i).computedOpening ∧ (crossed.bodyAt i).computedOpening ≤ 100000000)) :
    RewritePasses (serving (.rewrite a) crossed) asked a i := by
  obtain ⟨hr, hc, hp, hu, hv, hm, hb, ho⟩ := h
  refine ⟨rfl, crossed_takes, hr, integrity_congr rfl (peopled_integrity _ _), .inr hc, ?_, hu, ?_, hm, hb, ho⟩
  · refine hp.imp_left fun hq => ?_
    show ∃ held, crossed.lifeAt i = .quarantined held
    cases hl : crossed.lifeAt i with
    | quarantined held => exact ⟨held, rfl⟩
    | free | waiting | live | settled | lost => rw [hl] at hq; cases hq
  · intro ht j hj
    change crossed.occupant a.channel = some j at hj
    rcases hv ht with h | h <;> rw [h] at hj <;> cases hj
    rfl

/-- That the account of slot i stands in one place of the lists, from a check that the kernel evaluates. -/
theorem listed_of {s : State} {i : Slot}
    (h : channels.all (fun m => (s.listAt m).all fun g => slotOf g != i
      || (g == s.handleAt i && decide (s.listAt m).Nodup
        && channels.all fun k => !(s.listAt k).contains g || k == m)) = true) : s.ListedOnce i := by
  intro m g hg hi
  have hm := List.all_eq_true.mp (List.all_eq_true.mp h m (List.mem_finRange m)) g hg
  simp only [hi, bne_self_eq_false, Bool.false_or, Bool.and_eq_true, beq_iff_eq, decide_eq_true_eq] at hm
  refine ⟨hm.1.1, hm.1.2, fun k hk => ?_⟩
  have := List.all_eq_true.mp hm.2 k (List.mem_finRange k)
  simpa [hk] using this

theorem crossed_listed : crossed.ListedOnce 3 ∧ crossed.ListedOnce 6 ∧ crossed.ListedOnce 7 ∧ crossed.ListedOnce 1 :=
  ⟨listed_of (by decide +kernel), listed_of (by decide +kernel), listed_of (by decide +kernel),
    listed_of (by decide +kernel)⟩

theorem witness_RewriteWritesTheRecord :
    (let a := mending 36#16 .settled 4;
      RewritePasses (serving (.rewrite a) crossed) asked a 4 ∧ (serving (.rewrite a) crossed).lifeAt 4 = .quarantined .settled)
    ∧ (let a := mending 38#16 .waiting 1
      RewritePasses (serving (.rewrite a) crossed) asked a 6 ∧ crossed.occupant 1 = some 0 ∧ crossed.ListedOnce 6)
    ∧ (let a := mending 33#16 .waiting 1
      RewritePasses (serving (.rewrite a) crossed) asked a 1 ∧ crossed.ListedOnce 1)
    ∧ (table.lifeAt 5 = .lost ∧ table.resolve 37#16 = some 5)
    ∧ ((damaged 3).lifeAt 3 = .quarantined .live ∧ (damaged 3).intactAt 3 = false
      ∧ 1#16 ≠ ((damaged 3).bodyAt 3).version)
    ∧ ((damaged 1).lifeAt 1 = .waiting ∧ (damaged 1).intactAt 1 = false)
    ∧ (table.lifeAt 1 = .waiting ∧ table.intactAt 1 = true ∧ (table.bodyAt 1).channel ≠ count8 2)
    ∧ ((mending 35#16 .live 1).target = .live ∧ table.occupant 1 = some 0 ∧ (table.bodyAt 0).reference = ref 1)
    ∧ 3 ≤ ((table.setList 1 [32#16, 33#16, 34#16]).listAt 1).length
    ∧ (account 3 4 1#8 100000001).computedOpening > 100000000 := by
  refine ⟨⟨mending_passes (by decide +kernel), by decide +kernel⟩,
    ⟨mending_passes (by decide +kernel), by decide +kernel, crossed_listed.2.1⟩,
    ⟨mending_passes (by decide +kernel), crossed_listed.2.2.2⟩, by decide +kernel⟩

theorem witness_RewritePlacesTheAccount :
    (let a := mending 35#16 .live 3;
      RewritePasses (serving (.rewrite a) crossed) asked a 3 ∧ crossed.lifeAt 3 = .quarantined .live
        ∧ crossed.listAt 3 = a.handle :: [39#16] ∧ (∀ m, m ≠ 3 → a.handle ∉ crossed.listAt m)
        ∧ ∀ m hd tl, m ≠ 3 → crossed.listAt m = hd :: tl → slotOf hd ≠ 3)
    ∧ (let a := mending 38#16 .waiting 1
      RewritePasses (serving (.rewrite a) crossed) asked a 6 ∧ crossed.lifeAt 6 = .quarantined .waiting
        ∧ crossed.ListedOnce 6 ∧ ∀ m, crossed.occupant m ≠ some 6)
    ∧ (let a := mending 38#16 .live 2
      RewritePasses (serving (.rewrite a) crossed) asked a 6 ∧ crossed.occupant 2 = none)
    ∧ (let a := mending 35#16 .live 5
      RewritePasses (serving (.rewrite a) crossed) asked a 3 ∧ crossed.lifeAt 7 = .waiting ∧ crossed.ListedOnce 3
        ∧ crossed.ListedOnce 7 ∧ crossed.listAt 3 = a.handle :: crossed.handleAt 7 :: [] ∧ crossed.occupant 5 = none)
    ∧ (let a := mending 35#16 .waiting 1
      RewritePasses (serving (.rewrite a) crossed) asked a 3 ∧ crossed.occupant 1 = some 0)
    ∧ (let a := mending 35#16 .settled 3
      RewritePasses (serving (.rewrite a) crossed) asked a 3) := by
  refine ⟨⟨mending_passes (by decide +kernel), by decide +kernel, by decide +kernel, by decide +kernel,
      heads_of (by decide +kernel)⟩,
    ⟨mending_passes (by decide +kernel), by decide +kernel, crossed_listed.2.1, by decide +kernel⟩,
    ⟨mending_passes (by decide +kernel), by decide +kernel⟩,
    ⟨mending_passes (by decide +kernel), by decide +kernel, crossed_listed.1, crossed_listed.2.2.1, by decide +kernel⟩,
    ⟨mending_passes (by decide +kernel), by decide +kernel⟩, mending_passes (by decide +kernel)⟩

theorem witness_DiscardFreesTheSlot :
    (let s := serving (.discard 35#16) table;
      s.Serves asked (.discard 35#16)
        ∧ (∀ m hd tl, m ≠ 3 → s.listAt m = hd :: tl → slotOf hd ≠ 3) ∧ s.storeTakes = true ∧ s.resolve 35#16 = some 3
        ∧ s.lifeAt 3 = .quarantined .live ∧ s.intactAt 3 = true ∧ s.listAt 3 = [35#16]
        ∧ (∀ m, m ≠ 3 → 35#16 ∉ s.listAt m))
    ∧ (crossed.IntegrityLaw
      ∧ ((∀ m hd tl, m ≠ 3 → crossed.listAt m = hd :: tl → slotOf hd ≠ 3)
        ∧ ∀ m hd tl, m ≠ 3 → crossed.listAt m = hd :: tl → slotOf hd ≠ 7)
      ∧ crossed.lifeAt 3 = .quarantined .live ∧ crossed.lifeAt 7 = .waiting
      ∧ crossed.listAt 3 = 35#16 :: crossed.handleAt 7 :: [] ∧ ∀ m, m ≠ 3 → 35#16 ∉ crossed.listAt m)
    ∧ (table.resolve 36#16 = some 4 ∧ table.lifeAt 4 = .quarantined .settled ∧ table.intactAt 4 = true
      ∧ ∀ m, 36#16 ∉ table.listAt m)
    ∧ (let s := table.setList 1 [32#16, 38#16]
      ∀ m m', 38#16 ∈ s.listAt m → 38#16 ∈ s.listAt m' → m = m')
    ∧ (table.resolve 37#16 = some 5 ∧ table.lifeAt 5 = .lost ∧ ∀ m, 37#16 ∉ table.listAt m)
    ∧ (table.resolve 33#16 = some 1 ∧ table.lifeAt 1 = .waiting ∧ table.intactAt 1 = true)
    ∧ ((damaged 1).resolve 33#16 = some 1 ∧ (damaged 1).lifeAt 1 = .waiting ∧ (damaged 1).intactAt 1 = false) :=
  ⟨⟨rfl, heads_of (by decide +kernel), by decide +kernel⟩,
    ⟨peopled_integrity _ _, ⟨heads_of (by decide +kernel), heads_of (by decide +kernel)⟩, by decide +kernel⟩,
    by decide +kernel⟩

/-! ## Witnesses: credit -/

theorem witness_EvaluationFollowsTheTables :
    ∀ found : Emergency, ({ account 1 1 0#8 0 with emergency := emergencyCode found } : Body).emergency
      = emergencyCode found := fun _ => rfl

theorem witness_ChargeArithmetic : 65535 * 65535 ≤ 4294836225 := by decide

/-- The greatest TOP_UP, for the account of slot i. -/
def topping (h : Handle) (expected : Option (BitVec 16)) : TopUpArgs :=
  { handle := h, voucher := 9#32, amount := 100000000#32, expected := expected }

theorem witness_TopUpCredits :
    let a := topping 32#16 (some 0#16)
    let s := serving (.topUp a) table
    let b := s.bodyAt 0
    s.Serves asked (.topUp a) ∧ s.storeTakes = true ∧ s.resolve a.handle = some 0 ∧ s.intactAt 0 = true
      ∧ s.lifeAt 0 = .live ∧ s.lifeAt 1 = .waiting ∧ a.voucher ∉ b.vouchers ∧ a.expected = some b.version
      ∧ (-2000000000 ≤ b.balance.toInt + a.amount.toNat ∧ b.balance.toInt + a.amount.toNat ≤ 2000000000)
      ∧ b.credited.toNat + a.amount.toNat ≤ 2 ^ 48 - 1 :=
  ⟨rfl, by decide +kernel⟩

theorem witness_TopUpRefusedInOrder :
    table.storeTakes = true ∧ table.resolve 64#16 = none
      ∧ (table.resolve 35#16 = some 3 ∧ table.lifeAt 3 = .quarantined .live)
      ∧ (table.resolve 37#16 = some 5 ∧ table.lifeAt 5 = .lost)
      ∧ ((damaged 1).resolve 33#16 = some 1 ∧ (damaged 1).intactAt 1 = false ∧ (damaged 1).lifeAt 1 = .waiting)
      ∧ (table.resolve 34#16 = some 2 ∧ table.intactAt 2 = true ∧ table.lifeAt 2 = .settled)
      ∧ 9#32 ∈ ((holding 0 .live { account 1 1 1#8 5 with vouchers := [8#32, 9#32] } table).bodyAt 0).vouchers
      ∧ (some 1#16 ≠ some (table.bodyAt 0).version ∧ 9#32 ∉ (table.bodyAt 0).vouchers)
      ∧ ((account 1 1 1#8 1900000001).balance.toInt + (topping 32#16 none).amount.toNat > 2000000000)
      ∧ ((account 1 1 1#8 (-2100000001)).balance.toInt + (topping 32#16 none).amount.toNat < -2000000000) := by
  decide +kernel

theorem witness_AdjustMovesTheBalance :
    let a : AdjustArgs := { handle := 33#16, expected := 0#16, amount := BitVec.ofInt 32 (-100000000) }
    let s := serving (.adjust a) table
    let b := s.bodyAt 1
    let x := a.amount.toInt
    s.Serves asked (.adjust a) ∧ s.storeTakes = true ∧ s.resolve a.handle = some 1 ∧ s.intactAt 1 = true
      ∧ s.lifeAt 1 = .waiting ∧ a.expected = b.version ∧ -2000000000 ≤ b.balance.toInt + x
      ∧ b.balance.toInt + x ≤ 2000000000 ∧ b.credited.toNat + max x 0 ≤ 2 ^ 48 - 1
      ∧ b.debited.toNat + max (-x) 0 ≤ 2 ^ 48 - 1
      ∧ 1#16 ≠ b.version ∧ (account 1 1 1#8 (-1900000001)).balance.toInt + x < -2000000000 :=
  ⟨rfl, by decide +kernel⟩

theorem witness_SetLimitsWrites :
    let a : LimitsArgs :=
      { handle := 32#16, tariff := 3#8, threshold := 100000000#32, allowance := 0#32, expected := none }
    let s := serving (.setLimits a) table
    s.Serves asked (.setLimits a) ∧ s.storeTakes = true ∧ s.resolve a.handle = some 0 ∧ s.intactAt 0 = true
      ∧ s.lifeAt 0 = .live ∧ 1#16 ≠ (s.bodyAt 0).version ∧ s.resolve 34#16 = some 2 ∧ s.lifeAt 2 = .settled
      ∧ s.intactAt 2 = true :=
  ⟨rfl, by decide +kernel⟩

theorem witness_QuantumDebitCharges :
    let s := cq1 (fun q => { q with debits := 1 }) table
    let d := cq1 (fun q => { q with debits := 1 }) (damaged 0)
    s.storeTakes = true ∧ 0 < (s.cqAt 1).debits
      ∧ (s.occupant 1 = some 0 ∧ s.lifeAt 0 = .live ∧ s.intactAt 0 = true ∧ (s.bodyAt 0).tariff = count8 0)
      ∧ (s.occupant 2 = none ∧ s.occupant 3 = some 3 ∧ s.lifeAt 3 ≠ .live)
      ∧ (d.storeTakes = true ∧ d.occupant 1 = some 0 ∧ d.lifeAt 0 = .live ∧ d.intactAt 0 = false) := by
  decide +kernel

/-- An engage claim of channel 1 waits that names an account. -/
def engaging (h : Handle) (s : State) : State :=
  sc1 (fun c => { c with engage := some { handle := h, fromClosed := true, answer := none } }) s

theorem witness_EmergencyEngaged :
    let s := engaging 32#16 (holding 0 .live (account 1 1 (creditCode .exhausted) (-500)) table)
    let d := engaging 32#16 (damaged 0)
    (s.storeTakes = true ∧ (s.scAt 1).engage = some { handle := 32#16, fromClosed := true, answer := none }
      ∧ s.resolve 32#16 = some 0 ∧ s.occupant 1 = some 0 ∧ s.lifeAt 0 = .live ∧ s.intactAt 0 = true
      ∧ (s.bodyAt 0).allowance ≠ 0#32 ∧ (s.bodyAt 0).emergency = emergencyCode .available
      ∧ (s.bodyAt 0).credit = creditCode .exhausted)
    ∧ (table.resolve 33#16 = some 1 ∧ table.occupant 1 ≠ some 1)
    ∧ (table.intactAt 0 = true ∧ (table.bodyAt 0).credit ≠ creditCode .low
      ∧ (table.bodyAt 0).credit ≠ creditCode .exhausted)
    ∧ (d.resolve 32#16 = some 0 ∧ d.occupant 1 = some 0 ∧ d.lifeAt 0 = .live ∧ d.intactAt 0 = false) := by
  decide +kernel

theorem witness_UnbilledIsBilled :
    let s := serving (.billUnbilled 1 33#16) table
    let t := { s with store := { s.store with billing := some { channel := 1, slot := 1, count := some 65535 } } }
    (s.Serves asked (.billUnbilled 1 33#16) ∧ t.Serves asked (.billUnbilled 1 33#16))
      ∧ (s.storeTakes = true ∧ s.resolve 33#16 = some 1 ∧ s.intactAt 1 = true ∧ s.lifeAt 1 = .waiting
        ∧ 33#16 ∈ s.listAt 1)
      ∧ t.store.billing = some { channel := 1, slot := 1, count := some 65535 } ∧ t.lifeAt 1 = .waiting
      ∧ (t.bodyAt 1).tariff = count8 0 :=
  ⟨⟨rfl, rfl⟩, by decide +kernel⟩

/-! ## Witnesses: tariffs and the levy -/

theorem witness_TariffRequestsAnswered :
    (serving (.setPrice 3 3 65535#16) running).Serves asked (.setPrice 3 3 65535#16)
      ∧ (serving (.setStanding 3 1000000#32) running).Serves asked (.setStanding 3 1000000#32)
      ∧ ((serving (.setBand 3) running).Serves asked (.setBand 3) ∧ 3 ≠ running.tu.band)
      ∧ (serving (.readTariff false 3) running).Serves asked (.readTariff false 3)
      ∧ (serving .commitTariffs running).Serves asked .commitTariffs ∧ running.le.walk = .idle :=
  ⟨rfl, rfl, ⟨rfl, by decide⟩, rfl, rfl, rfl⟩

/-- A walk at its last slot, with the result of its claim. -/
def walkingAt (r : LevyResult) : LevyEngine :=
  { walk := .walking { number := 77#16, cursor := 31, charged := 2, already := 1 }, claim := none, result := some r
    last := none }

theorem witness_LevyWalks :
    (serving (.levy 65535#16) running).Serves asked (.levy 65535#16) ∧ running.le.walk = .idle
      ∧ (serving .cancelLevy running).Serves asked .cancelLevy
      ∧ (walkingAt (.charged 31)).result = some (.charged 31)
      ∧ (walkingAt .exhausted).walk = .walking { number := 77#16, cursor := 31, charged := 2, already := 1 }
      ∧ (30 : Slot).val < 31 ∧ (31 : Slot).val = 31 :=
  ⟨rfl, rfl, rfl, rfl, rfl, by decide, rfl⟩

theorem witness_LevyClaimCharges :
    let s := { table with le := { table.le with claim := some { number := 77#16, cursor := 0 } } }
    let d := { damaged 0 with le := s.le }
    (s.storeTakes = true ∧ s.le.claim = some { number := 77#16, cursor := 0 })
      ∧ (s.lifeAt 0 = .live ∧ (∀ j : Slot, 0 ≤ j.val → j < 0 → s.lifeAt j ≠ .live) ∧ s.intactAt 0 = true
        ∧ (s.bodyAt 0).lastLevy ≠ 77#16 ∧ (s.bodyAt 0).tariff = count8 0)
      ∧ (∀ j : Slot, 1 ≤ j.val → s.lifeAt j ≠ .live)
      ∧ ((holding 0 .live { account 1 1 1#8 5 with lastLevy := 77#16 } table).bodyAt 0).lastLevy = 77#16
      ∧ (d.lifeAt 0 = .live ∧ d.intactAt 0 = false) := by
  decide +kernel

/-! ## Witnesses: metering -/

theorem witness_PulsesMakeQuanta :
    let q := (running.cqAt 1)
    let s := cq1 (fun q => { q with recogniser := .qualifying 1, config := { q.config with divisor := 2 } }) running
    (running.ru.power ≠ .restoring ∧ q.accumulation = .idle ∧ q.config.divisor = 1)
      ∧ ((s.cqAt 1).recogniser = .qualifying 1 ∧ (s.cqAt 1).accumulation = .idle ∧ 1 < (s.cqAt 1).config.divisor)
      ∧ ((1 : Nat) + 1 = (s.cqAt 1).config.divisor ∧ (1 : Nat) + 1 < { q.config with divisor := 3 }.divisor)
      ∧ ((running.scAt 1).state = .opened ∧ (pressed.scAt 1).state = .armed)
      ∧ ((cq1 (fun q => { q with results := [.refused], unbilled := 65533 }) running).cqAt 1).unbilled < 65534
      ∧ ((cq1 (fun q => { q with results := [.taken] }) running).cqAt 1).results = [.taken] := by
  decide +kernel

theorem witness_ChannelsConfiguredAndRead :
    (serving (.configureChannel 1 fullConfig) running).Serves asked (.configureChannel 1 fullConfig)
      ∧ (fullConfig ≠ (running.cqAt 1).config ∧ fullConfig.divisor ≠ (running.cqAt 1).config.divisor)
      ∧ ({ (running.cqAt 1).config with reclose := true } : ChannelConfig) ≠ (running.cqAt 1).config
      ∧ (inPhase (.channel 1 none none) running).re = some { request := asked, phase := .channel 1 none none }
      ∧ (inPhase (.channel 1 (some []) none) running).re
          = some { request := asked, phase := .channel 1 (some []) none } :=
  ⟨rfl, by decide +kernel, by decide +kernel, rfl, rfl⟩

/-! ## Witnesses: supply -/

/-- Channel 1 in a state, its view and the notices on their way. -/
def facing (state : SupplyState) (view : View) (notices : List View) : State :=
  sc1 (fun c => { c with state := state, view := view, notices := notices }) running

/-- An occupant with a credit state whose emergency is AVAILABLE. -/
def occupied (c : Credit) : View := .live 32#16 (some c) (some .available)

theorem witness_NoticesAreEvaluated :
    ((facing .closed .vacant [.vacant]).scAt 1).notices = [.vacant]
      ∧ ((facing .closed .vacant [occupied .exhausted]).scAt 1).hold = false
      ∧ ((facing .opened .vacant [occupied .low]).scAt 1).notices = [occupied .low]
      ∧ (∃ h credit e, occupied .low = .live h (some credit) e ∧ credit ≠ .exhausted)
      ∧ ((facing (.fault .welded) .vacant [.quarantined]).scAt 1).state = .fault .welded :=
  ⟨rfl, rfl, rfl, ⟨_, _, _, rfl, by decide⟩, rfl⟩

theorem witness_FeedbackDecides :
    (((sc1 (fun c => { c with feedback := true }) (facing .opening .vacant [])).scAt 1).feedback = true
      ∧ ((sc1 (fun c => { c with feedback := true }) (facing .closed .vacant [])).scAt 1).state = .closed)
      ∧ (((facing .closing .vacant []).scAt 1).feedback = false ∧ ((facing .closing .vacant []).scAt 1).state = .closing)
      ∧ ((running.scAt 1).feedback = false ∧ (running.scAt 1).state = .opened)
      ∧ ((facing .adopting .vacant []).scAt 1).feedback ≠ true
      ∧ ((sc1 (fun c => { c with timer := some 1 }) (facing .closing .vacant [])).scAt 1).timer = some 1
      ∧ ((facing .opened .vacant []).scAt 1).timer = none := by
  decide +kernel

theorem witness_PressesAreActedOn :
    let s := sc1 (fun c => { c with button := .qualifying 40 }) (facing .opened (occupied .exhausted) [])
    let t := sc1 (fun c => { c with button := .qualifying 40 }) (facing .closed (occupied .low) [])
    let e : Engage := { handle := 32#16, fromClosed := false, answer := some (.taken (some .emergency) (some .inUse)) }
    let u := sc1 (fun c => { c with engage := some e }) s
    ((s.scAt 1).state ≠ .adopting ∧ s.ru.power ≠ .restoring ∧ (s.scAt 1).button = .qualifying 40
        ∧ (s.scAt 1).view = .live 32#16 (some .exhausted) (some .available) ∧ (s.scAt 1).engage = none
        ∧ (s.scAt 1).state = .opened)
      ∧ ((pressed.scAt 1).state = .armed ∧ (pressed.scAt 1).button = .qualifying 40)
      ∧ ((t.scAt 1).view = .live 32#16 (some .low) (some .available) ∧ (t.scAt 1).state = .closed)
      ∧ ((u.scAt 1).engage = some e ∧ e.answer = some (.taken (some .emergency) (some .inUse))
        ∧ (u.scAt 1).view = .live e.handle (some .exhausted) (some .available) ∧ e.fromClosed = false) := by
  decide +kernel

theorem witness_SupplyRequestsAnswered :
    let a := cq1 (fun q => { q with config := fullConfig }) (facing .armed (occupied .normal) [])
    let f := facing (.fault .dropped) .vacant []
    ((serving (.reconnect 1) a).Serves asked (.reconnect 1) ∧ (serving (.clearFault 1) f).Serves asked (.clearFault 1))
      ∧ ((a.scAt 1).state = .armed ∧ (a.cqAt 1).config.reconnect = true)
      ∧ ((f.scAt 1).state = .fault .dropped ∧ (f.scAt 1).feedback = false)
      ∧ (inPhase (.hold 0x02#8 true (Vector.replicate 8 none)) running).re
          = some { request := asked, phase := .hold 0x02#8 true (Vector.replicate 8 none) } :=
  ⟨⟨rfl, rfl⟩, by decide +kernel, by decide +kernel, rfl⟩

theorem witness_AdoptionFollowsTheTable :
    let s (drive feedback : Bool) := sc1 (fun c => { c with
      adopt := true, drive := drive, feedback := feedback, view := occupied .low }) (restoring .adoption running)
    (∀ drive feedback, ((s drive feedback).scAt 1).adopt = true ∧ ((s drive feedback).scAt 1).notices = []
        ∧ ((s drive feedback).scAt 1).state = .adopting ∧ (s drive feedback).au.inbox = []
        ∧ ((s drive feedback).scAt 1).drive = drive ∧ ((s drive feedback).scAt 1).feedback = feedback
        ∧ (s drive feedback).ru.kind = .powerOn)
      ∧ (ru (fun r => { r with kind := .soft }) running).ru.kind ≠ .powerOn
      ∧ ((cq1 (fun q => { q with config := fullConfig }) running).cqAt 1).config.reclose = true := by
  decide +kernel

/-! ## Witnesses: the attention list -/

theorem witness_AttentionMessagesTaken :
    let s := { attentive with au := { attentive.au with
      inbox := [.raised .levy (.device .levyDone), .raised .store (.slot 12 .promoted), .removed 12] } }
    (Block.store.raisesCauses = true
      ∧ s.au.inbox = [.raised .levy (.device .levyDone)] ++ .raised .store (.slot 12 .promoted) :: [.removed 12]
      ∧ (∀ m ∈ [AttentionMessage.raised .levy (.device .levyDone)], m.isFrom .store = false)
      ∧ s.au.mask.slot.getLsbD (raiseBit (.slot 12 .promoted)) = false
      ∧ s.au.list = [] ++ { subject := .slot 12, causes := 1#8 } :: [])
    ∧ (∀ d ∈ s.au.list, d.subject ≠ raiseSubject (.device .levyDone))
    ∧ (0xFF#8).getLsbD (raiseBit (.slot 12 .promoted)) = true
    ∧ (∀ m ∈ [AttentionMessage.raised .levy (.device .levyDone)], m.isFrom .store = false) := by
  decide +kernel

theorem witness_AttentionRequestsAnswered :
    ((serving .fetchAttention attentive).Serves asked .fetchAttention
      ∧ (serving (.ackAttention (.slot 12) 1#8) attentive).Serves asked (.ackAttention (.slot 12) 1#8)
      ∧ (serving (.setAttentionMask .empty) attentive).Serves asked (.setAttentionMask .empty))
    ∧ running.au.list = []
    ∧ (attentive.au.list = [] ++ { subject := .slot 12, causes := 1#8 } :: []
      ∧ (∀ d ∈ ([] : List Entry) ++ [], d.subject ≠ .slot 12) ∧ 1#8 &&& ~~~1#8 = 0#8 ∧ 1#8 &&& ~~~2#8 ≠ 0#8)
    ∧ (∀ d ∈ attentive.au.list, d.subject ≠ .device) ∧ attentive.au.attn = !attentive.au.list.isEmpty :=
  ⟨⟨rfl, rfl, rfl⟩, by decide +kernel⟩

/-! ## Witnesses: retention -/

theorem witness_DirtyItemsAreGathered :
    let r := { running.ru with inbox := [(.store, .account 31)] }
    (Block.store.ownsRetained = true ∧ r.inbox = [] ++ (.store, .account 31) :: [] ∧ r.engine = .idle ∧ r.power = .run
      ∧ r.commitSerial ≠ 0xFFFFFFFF#32 ∧ r.queue = [] ∧ r.isBarred (.account 31) = false)
    ∧ ((restoring .classify running).ru.power = .restoring)
    ∧ (table.store.billing = none ∧ table.intactAt 1 = true ∧ table.lifeAt 1 = .waiting
      ∧ table.lifeAt 3 = .quarantined .live ∧ table.lifeAt 5 = .lost ∧ table.intactAt 5 = true)
    ∧ ({ table with store := { table.store with billing := some { channel := 1, slot := 0, count := none } } }
        : State).store.billing ≠ none
    ∧ (∀ n : Channel, (Vector.replicate 8 (none : Option Bool))[n] = none) := by
  decide +kernel

theorem witness_WritesKeepTheLatestCopy :
    let d := blankDirectory.put .tariff { a := .valid 4#32, b := .valid 5#32, latest := some .b }
    let s := ru (fun r => { r with directory := some d, engine := .snapshot (.tariff (some Bank.zero)) }) running
    let w : Write := { item := .tariff, copy := .a, serial := 6#32, content := [], elapsed := 3 }
    let t := ru (fun r => { r with engine := .writing w }) s
    (s.ru.engine = .snapshot (.tariff (some Bank.zero))
      ∧ (Gathering.tariff (some Bank.zero)).complete = some (.tariff, tariffBytes Bank.zero)
      ∧ (s.ru.entry .tariff).a = .valid 4#32 ∧ (s.ru.entry .tariff).b = .valid 5#32)
    ∧ (t.ru.engine = .writing w ∧ t.ru.directory = some d ∧ t.ru.power = .run ∧ t.ru.commitSerial ≠ 0xFFFFFFFF#32
      ∧ NvCopy.torn ≠ .image w.serial w.content (crc16 (le32 w.serial ++ w.content))) := by
  decide +kernel

theorem witness_PowerAndDeviceReported :
    (running.ru.pfw = false ∧ running.ru.power = .run)
      ∧ ((after (.pfwEvent true) running).ru.pfw = true ∧ (after (.pfwEvent true) running).ru.power = .holdup)
      ∧ (running.ru.engine = .idle ∧ (walkingAt .exhausted).walk ≠ .idle ∧ running.le.walk = .idle
        ∧ running.le.last = none ∧ running.ru.summary = none)
      ∧ running.storeTakes = true
      ∧ (serving .identify running).re = some { request := asked, phase := .claim .identify }
      ∧ (inPhase (.device none none none) running).re = some { request := asked, phase := .device none none none }
      ∧ (ru (fun r => { r with summary := some (.start .pin) }) running).ru.summary = some (.start .pin) := by
  decide +kernel

theorem witness_DrainStopsTheBlocks :
    (serving .softReset running).Serves asked .softReset
      ∧ (running.ru.power = .run ∧ running.ru.commitSerial ≠ 0xFFFFFFFF#32 ∧ running.ru.stop = none
        ∧ running.ru.queue = [] ∧ running.ru.engine = .idle)
      ∧ (ru (fun r => { r with queue := [.tariff] }) running).ru.queue ≠ []
      ∧ ((ru (fun r => { r with stop := some .none }) running).ru.stop = some .none
        ∧ ∀ m ∈ running.ru.inbox, m.1 ≠ .quantizer 7) :=
  ⟨rfl, by decide +kernel⟩

/-! ## Witnesses: resets and restore -/

theorem witness_ResetsSetEveryBlock :
    let w : Write := { item := .tariff, copy := .a, serial := 6#32, content := [], elapsed := 3 }
    let s := ru (fun r => { r with power := .draining, stop := some allStopped }) running
    (∀ w, running.ru.engine ≠ .writing w) ∧ (ru (fun r => { r with engine := .writing w }) running).ru.engine = .writing w
      ∧ (s.ru.stop = some allStopped ∧ allStopped.store = true ∧ allStopped.tariff = true
        ∧ (∀ n : Channel, allStopped.quantizers[n] = true) ∧ (∀ n : Channel, allStopped.supplies[n] = true)
        ∧ s.ru.power = .draining ∧ s.ru.queue = [] ∧ s.ru.engine = .idle ∧ s.ru.inbox = []) :=
  ⟨nofun, rfl, by decide +kernel⟩

theorem witness_CopiesAreClassed :
    let s := restoring .classify running
    s.ru.power = .restoring ∧ s.ru.stage = .classify ∧ s.au.inbox = [] := by decide +kernel

theorem witness_ItemsAreLoaded :
    let array := ((blankArray.put .settings { a := goodCopy 1#32 (settingsBytes fullSettings), b := .blank }).put .tariff
      { a := goodCopy 2#32 (tariffBytes Bank.zero), b := .torn }).put (.account 31)
      { a := .blank, b := goodCopy 3#32 (serialise 31 { fullSlot with word := 0#16 }) }
    let s := after .classifyCopies (restoring .classify (ru (fun r => { r with array := array }) running))
    let t := restoring (.accounts 31) s
    let d := ru (fun r => { r with directory := s.ru.directory }) t
    (s.ru.power = .restoring ∧ s.au.inbox = [] ∧ s.ru.stage = .settings ∧ s.ru.tally.settings = .loaded
      ∧ s.ru.latestContent .settings = some (settingsBytes fullSettings)
      ∧ parseSettings (settingsBytes fullSettings) = some fullSettings ∧ s.ru.tally.tariff = .loaded
      ∧ s.ru.latestContent .tariff = some (tariffBytes Bank.zero)
      ∧ parseTariff (tariffBytes Bank.zero) = some Bank.zero)
    ∧ ((restoring .settings running).ru.tally.settings ≠ .loaded
      ∧ (restoring .settings running).ru.latestContent .settings = none
      ∧ (restoring .settings running).ru.latestContent .tariff = none)
    ∧ ((parseAccount 30 (serialise 30 (freeForm 30 0#11))).map (·.life)) = some .free
    ∧ (d.ru.stage = .accounts 31 ∧ (d.ru.entry (.account 31)).outcome = .loaded
      ∧ (d.ru.latestContent (.account 31)).bind (parseAccount 31)
          = some { life := .settled, generation := 2047#11, body := fullSlot.body.shown .settled }
      ∧ (d.ru.entry (.account 30)).outcome = .blank)
    ∧ (DirectoryEntry.outcome { a := .invalid, b := .blank, latest := none }) = .lost := by
  decide +kernel

/-- One WAITING account on channel 1, which has no occupant. -/
def vacated : State := restoring .promotion ((holding 1 .waiting (account 1 2 0#8 700) running).setList 1 [33#16])

theorem vacated_lists : ∀ m, m ≠ 1 → vacated.listAt m = [] := by decide +kernel

theorem overfull_listed : ∀ i, overfull.ListedOnce i := by
  have h : ∀ i, channels.all (fun m => (overfull.listAt m).all fun g => slotOf g != i
      || (g == overfull.handleAt i && decide (overfull.listAt m).Nodup
        && channels.all fun k => !(overfull.listAt k).contains g || k == m)) = true := by decide +kernel
  exact fun i => listed_of (h i)

theorem overfull_settled :
    ∀ m, overfull.occupant m ≠ none ∨ ∀ h ∈ overfull.listAt m, overfull.lifeAt (slotOf h) ≠ .waiting := fun m => by
  have h1 : overfull.occupant 1 ≠ none := by decide +kernel
  have h2 : ∀ m, m ≠ 1 → overfull.listAt m = [] := by decide +kernel
  by_cases hm : m = 1
  · exact .inl (hm ▸ h1)
  · exact .inr fun h hh => by simp [h2 m hm] at hh

theorem witness_ConflictsAreSettled :
    ((restoring .promotion overfull).ru.stage = .promotion ∧ (∀ i, overfull.ListedOnce i)
      ∧ (∀ m, overfull.occupant m ≠ none ∨ ∀ h ∈ overfull.listAt m, overfull.lifeAt (slotOf h) ≠ .waiting)
      ∧ overfull.handleAt 9 ∈ (overfull.listAt 1).drop 3)
    ∧ vacated.IntegrityLaw
      ∧ (vacated.ru.power = .restoring ∧ vacated.au.inbox = [] ∧ vacated.ru.stage = .promotion
        ∧ vacated.listAt 1 = vacated.handleAt 1 :: [] ∧ vacated.lifeAt 1 = .waiting
        ∧ ∀ m, (vacated.listAt m).length ≤ 3)
      ∧ (∀ m, m ≠ 1 → vacated.occupant m ≠ none ∨ ∀ h ∈ vacated.listAt m, vacated.lifeAt (slotOf h) ≠ .waiting)
      ∧ (restoring .references table).ru.stage = .references ∧ (restoring .occupancy table).ru.stage = .occupancy
      ∧ ∀ i, (table.bodyAt i).channel ≤ 7#8 :=
  ⟨⟨by decide +kernel, overfull_listed, overfull_settled, by decide +kernel⟩,
    integrity_slots (fun _ => rfl) (integrity_holding 1 .waiting (account 1 2 0#8 700) running_integrity),
    by decide +kernel, fun m hm => .inr fun h hh => by simp [vacated_lists m hm] at hh,
    by decide +kernel⟩

theorem witness_RestoreEnds :
    ((restoring .summary table).ru.power = .restoring ∧ (restoring .summary table).ru.stage = .summary
      ∧ (restoring .summary table).au.inbox = [])
    ∧ (let s := ru (fun r => { r with power := .restoring, stage := .adoption, queue := [.settings] }) running
      s.ru.power = .restoring ∧ s.au.inbox = [] ∧ s.ru.stage = .adoption
        ∧ (∀ n, (s.scAt n).adopt = false ∧ (s.scAt n).state ≠ .adopting) ∧ s.ru.engine = .idle
        ∧ s.ru.commitSerial ≠ 0xFFFFFFFF#32 ∧ s.ru.queue = .settings :: []) := by
  decide +kernel

end Sys2Proof.Tests
end

section
/-! Proofs about the account records: handles (R3), and the claims that the Account Store does whole (R17). -/

namespace Sys2Proof.Machine

/-! ## Handles -/

/-- A generation has 11 bits and a slot number 5, so a handle of 16 bits holds both. -/
theorem handleOf_toNat (i : Slot) (g : Generation) : (handleOf i g).toNat = g.toNat * 32 + i.val := by
  have hg : g.toNat < 2048 := g.isLt
  have hi : i.val < 32 := i.isLt
  rw [handleOf, BitVec.toNat_ofNat, Nat.mod_eq_of_lt (by omega)]

theorem State.resolve_eq_some_iff (s : State) (h : Handle) (i : Slot) :
    s.resolve h = some i ↔
      i = slotOf h ∧ generationOf h ≠ 0 ∧ s.lifeAt i ≠ .free ∧ (s.slotAt i).generation.toNat = generationOf h := by
  unfold State.resolve
  split_ifs with hr
  · obtain ⟨hg, hl, he⟩ := hr
    constructor
    · rintro ⟨⟩
      exact ⟨rfl, hg, hl, he.symm⟩
    · rintro ⟨rfl, -⟩
      rfl
  · refine ⟨nofun, ?_⟩
    rintro ⟨rfl, hg, hl, he⟩
    exact absurd ⟨hg, hl, he.symm⟩ hr

theorem eq_slotOf_iff (i : Slot) (h : Handle) : i = slotOf h ↔ i.val = h.toNat % 32 := Fin.ext_iff

/-- A claim by a handle that does not resolve ends at the first of its checks. -/
theorem State.named_of_unresolved {s : State} {h : Handle} (hr : s.resolve h = none) :
    s.named h = .refused s .noSuchAccount := by
  simp [State.named, hr]

/-! ## Claims at the Store -/

/-- No view differs from itself, so a claim that changes nothing sends no notice (R28). -/
theorem State.sendNotices_self (s : State) : s.sendNotices s = s := by
  have unmoved : ∀ l : List Channel, State.notifyFrom s l s = s := fun l => by
    induction l with
    | nil => rfl
    | cons n rest ih => simpa [State.notifyFrom] using ih
  exact unmoved channels

section Claims

variable {s : State} {q : Request} {c : Claim}

theorem State.claim_of_serves (hq : s.Serves q c) : s.claim = some c := by
  rw [State.Serves] at hq
  simp [State.claim, hq]

theorem State.answer_of_serves (hq : s.Serves q c) (o : OutcomeCode) (p : List Byte) :
    s.answer o p = s.answering q o p := by
  rw [State.Serves] at hq
  simp [State.answer, State.setPhase, State.answering, hq]

/-- A refusal without a change of the Store is the answer and nothing else. -/
theorem State.finishClaim_refused (hq : s.Serves q c) (o : OutcomeCode) :
    s.finishClaim (.refused s o) = s.answering q o [] := by
  simp [State.finishClaim, Taken.refused, State.sendNotices_self, State.answer_of_serves hq]

theorem State.billing_of_storeTakes (ht : s.storeTakes = true) : s.store.billing = none := by
  simp only [State.storeTakes, Bool.and_eq_true, Option.isNone_iff_eq_none] at ht
  exact ht.1.1

/-- The claims of the Request Engine that the Store does whole in one command (R17): that command, and what the Store
makes of the claim. -/
def State.wholeClaim (s : State) : Claim → Option (Instr × Taken)
  | .openAccount a => some (.openAccount, s.openAccount a)
  | .lookup r => some (.lookup, s.lookup r)
  | .readAccount h => some (.readAccount, s.readAccount h)
  | .survey start => some (.survey, s.survey start)
  | .close h expected => some (.close, s.close h expected)
  | .release h => some (.release, s.release h)
  | .rewrite a => some (.rewrite, s.rewrite a)
  | .discard h => some (.discard, s.discard h)
  | .topUp a => some (.topUp, s.topUp a)
  | .adjust a => some (.adjust, s.adjust a)
  | .setLimits a => some (.setLimits, s.setLimits a)
  | _ => none

/-- The handle by which a claim that the Store does whole names its account. -/
def Claim.account : Claim → Option Handle
  | .readAccount h | .close h _ | .release h | .discard h => some h
  | .rewrite a => some a.handle
  | .topUp a => some a.handle
  | .adjust a => some a.handle
  | .setLimits a => some a.handle
  | _ => none

/-- The command of a claim done whole runs it whenever the Store takes claims. -/
theorem exec_of_wholeClaim {i : Instr} {t : Taken} (hw : s.wholeClaim c = some (i, t)) (hq : s.Serves q c)
    (ht : s.storeTakes = true) : exec i s = .next (s.finishClaim t) := by
  have hc := State.claim_of_serves hq
  cases c
  case openAccount | lookup | readAccount | survey | close | release | rewrite | discard | topUp | adjust
      | setLimits =>
    obtain ⟨rfl, rfl⟩ := Prod.mk.inj (Option.some.inj hw)
    simp [exec, execOpenAccount, execLookup, execReadAccount, execSurvey, execClose, execRelease, execRewrite,
      execDiscard, execTopUp, execAdjust, execSetLimits, hc, ht]
  all_goals cases hw

/-- Every claim by handle asks first whether the handle resolves. -/
theorem State.wholeClaim_of_unresolved {i : Instr} {t : Taken} {h : Handle} (hw : s.wholeClaim c = some (i, t))
    (hc : c.account = some h) (hr : s.resolve h = none) : t = .refused s .noSuchAccount := by
  cases c
  case readAccount | rewrite | discard =>
    cases hc; cases hw
    simp [State.readAccount, State.rewrite, State.discard, hr]
  case close | release | topUp | adjust | setLimits =>
    cases hc; cases hw
    simp [State.close, State.release, State.topUp, State.adjust, State.setLimits, State.named_of_unresolved hr]
  all_goals cases hc

/-- R3 for the claims done whole: an unresolved handle is answered NO_SUCH_ACCOUNT and nothing changes. -/
theorem exec_of_unresolved {i : Instr} {t : Taken} {h : Handle} (hw : s.wholeClaim c = some (i, t))
    (hc : c.account = some h) (ht : s.storeTakes = true) (hr : s.resolve h = none) (hq : s.Serves q c) :
    exec i s = .next (s.answering q .noSuchAccount []) := by
  rw [exec_of_wholeClaim hw hq ht, State.wholeClaim_of_unresolved hw hc hr, State.finishClaim_refused hq]

/-- A BILL_UNBILLED that finds the Store free begins with its checks (R96). -/
theorem exec_billUnbilled_of_serves {n : Channel} {h : Handle} (hq : s.Serves q (.billUnbilled n h))
    (ht : s.storeTakes = true) : exec .billUnbilled s = .next (s.billBegin n h) := by
  simp [exec, execBillUnbilled, State.claim_of_serves hq, State.billing_of_storeTakes ht, ht]

theorem State.billBegin_of_unresolved {n : Channel} {h : Handle} (hq : s.Serves q c) (hr : s.resolve h = none) :
    s.billBegin n h = s.answering q .noSuchAccount [] := by
  simp [State.billBegin, State.named_of_unresolved hr, State.finishClaim_refused hq]

end Claims

/-! ## The statement -/

/-- Settles O21: each claim by handle makes the resolution its first check, and a refusal there leaves no trace but the
answer, as a Store that has not changed sends no notice. -/
theorem handlesResolve : Obligations.HandlesResolve := by
  unfold Obligations.HandlesResolve
  refine ⟨fun s i => handleOf_toNat i _, fun s h i => ?_, fun p => rfl, ?_⟩
  · rw [s.resolve_eq_some_iff, eq_slotOf_iff]
    rfl
  · intro s q h
    dsimp only
    intro ht hr
    have refused {c i t} (hw : s.wholeClaim c = some (i, t)) (hc : c.account = some h) :
        s.Serves q c → exec i s = .next (s.answering q .noSuchAccount []) := exec_of_unresolved hw hc ht hr
    refine ⟨refused rfl rfl, fun _ => refused rfl rfl, refused rfl rfl, fun _ ha => refused rfl (congrArg some ha),
      refused rfl rfl, fun _ ha => refused rfl (congrArg some ha), fun _ ha => refused rfl (congrArg some ha),
      fun _ ha => refused rfl (congrArg some ha), fun n hq => ?_⟩
    rw [exec_billUnbilled_of_serves hq ht, State.billBegin_of_unresolved hq hr]

end Sys2Proof.Machine
end

section
/-! Proofs about the account life cycle: what a claim done whole hands off (R18), and OPEN (R29 to R31). -/

namespace Sys2Proof.Machine

/-! ## What a claim done whole hands off -/

/-- The cause of a credit state entered is the one message of the evaluation (R51). -/
theorem State.raiseEntered_eq (s : State) (i : Slot) (start found : Byte) :
    s.raiseEntered i start found
      = { s with au := { s.au with inbox := s.au.inbox ++ entryMessages i start found } } := by
  unfold State.raiseEntered entryMessages
  by_cases same : found = start
  · simp [same]
  · unfold creditOfCode
    simp only [same, ↓reduceIte]
    split_ifs <;> simp_all [creditCode, enteredCause, State.raiseSlot, State.raise, State.setAu]

/-- Two states with the same controllers hold the same at every channel. -/
theorem scAt_congr {s t : State} (h : t.sc = s.sc) (n : Channel) : t.scAt n = s.scAt n := by
  rw [State.scAt, State.scAt, h]

/-- Between `s` and `u` a claim has changed the Store alone, and issued messages and dirtyings (R18). -/
def State.OnlyHandsOff (s u : State) : Prop :=
  u = { s with
    store := u.store
    au := { s.au with inbox := u.au.inbox }
    ru := { s.ru with inbox := u.ru.inbox } }

section ClaimEnd

variable {s : State} {t : Taken}

/-- The end of a claim adds no message and no dirtying to those that its change issued. -/
theorem State.finishClaim_au : (s.finishClaim t).au = t.state.au := by simp [State.finishClaim]

@[inherit_doc State.finishClaim_au]
theorem State.finishClaim_ru : (s.finishClaim t).ru = t.state.ru := by simp [State.finishClaim]

/-- What the end of a claim leaves at a controller: its notice, if the view changed (R28). -/
theorem State.finishClaim_scAt (n : Channel) :
    (s.finishClaim t).scAt n
      = { t.state.scAt n with
          notices := (t.state.scAt n).notices
            ++ (if t.state.viewOf n = s.viewOf n then [] else [t.state.viewOf n]) } := by
  have answered : (s.finishClaim t).scAt n = (t.state.sendNotices s).scAt n := scAt_congr (State.answer_sc ..) n
  rw [answered, State.sendNotices_scAt]
  split <;> simp

/-- A claim whose change is the Store's alone leaves at each controller all but the notices. -/
theorem State.OnlyHandsOff.finishClaim_scAt (h : s.OnlyHandsOff t.state) (n : Channel) :
    (s.finishClaim t).scAt n
      = { s.scAt n with
          notices := (s.scAt n).notices
            ++ (if t.state.viewOf n = s.viewOf n then [] else [t.state.viewOf n]) } := by
  have untouched : t.state.scAt n = s.scAt n := scAt_congr (by rw [h]) n
  rw [State.finishClaim_scAt, untouched]

theorem State.OnlyHandsOff.handOffFrame (h : s.OnlyHandsOff t.state) : HandOffFrame s (s.finishClaim t) where
  tariffs := by rw [State.finishClaim, h]; simp
  retention := by rw [State.finishClaim_ru, h]
  attention := by rw [State.finishClaim_au, h]
  notices n := by rw [h.finishClaim_scAt, viewOf_congr (s.finishClaim_store t)]
  supplies n := by rw [h.finishClaim_scAt]
  link := by rw [State.finishClaim, h]; simp
  pins := by rw [State.finishClaim, h]; simp
  samples := by rw [State.finishClaim, h]; simp
  pending := by rw [State.finishClaim, h]; simp

theorem State.OnlyHandsOff.fieldFrame (h : s.OnlyHandsOff t.state) : FieldFrame s (s.finishClaim t) where
  quantizers := by rw [State.finishClaim, h]; simp
  levy := by rw [State.finishClaim, h]; simp
  engages n := by rw [h.finishClaim_scAt]

/-- The answer of a claim done whole reaches the request that it serves (R176). -/
theorem State.OnlyHandsOff.answered {q : Request} {c : Claim} (h : s.OnlyHandsOff t.state) (hq : s.Serves q c) :
    (s.finishClaim t).Answered q t.outcome t.payload := by
  have served : t.state.re = some { request := q, phase := .claim c } := by rw [h]; exact hq
  rw [State.Answered, State.finishClaim_re, served]
  rfl

end ClaimEnd

/-! ## The record that OPEN writes -/

theorem emergencyOfCode_emergencyCode (e : Emergency) : emergencyOfCode (emergencyCode e) = some e := by
  cases e <;> rfl

/-- The status of a new account is no emergency under way, so the evaluation leaves it (R49) and finds the credit
state by the plain rule (R50). -/
theorem openBody_evaluated (a : OpenArgs) (serial : BitVec 32) :
    (openBody a serial).evaluated false
      = { openBody a serial with credit := creditCode (plainCredit a.opening.toInt a.threshold.toNat) } := by
  have status : (openBody a serial).status = if a.allowance = 0#32 then .none else .available := by
    simp [Body.status, openBody, emergencyOfCode_emergencyCode]
  have unmoved : (openBody a serial).statusAfter false = if a.allowance = 0#32 then .none else .available := by
    rw [Body.statusAfter, status]
    split <;> rfl
  have kept : emergencyCode ((openBody a serial).statusAfter false) = (openBody a serial).emergency := by
    rw [unmoved]
    rfl
  have plain : (openBody a serial).creditAfter false = plainCredit a.opening.toInt a.threshold.toNat := by
    rw [Body.creditAfter, unmoved]
    split <;> rfl
  rw [Body.evaluated, kept, plain]

theorem openBody_emergency (a : OpenArgs) (serial : BitVec 32) :
    (openBody a serial).emergency
      = if a.allowance = 0#32 then emergencyCode .none else emergencyCode .available :=
  apply_ite emergencyCode _ _ _

/-- Whether OPEN finds the channel without an occupant, and so makes the account LIVE (R31). -/
def State.opensLive (s : State) (n : Channel) : Bool := (s.occupant n).isNone

/-- The credit byte of the account that OPEN writes: evaluated in a LIVE account alone (R31). -/
def State.openedCredit (s : State) (a : OpenArgs) : Byte :=
  if s.opensLive a.channel then creditCode (plainCredit a.opening.toInt a.threshold.toNat) else 0#8

theorem State.openedCredit_eq (s : State) (a : OpenArgs) :
    s.openedCredit a
      = if (s.occupant a.channel).isNone then
          (if a.opening.toInt > a.threshold.toNat then creditCode .normal
           else if a.opening.toInt > 0 then creditCode .low else creditCode .exhausted)
        else 0#8 := by
  simp only [State.openedCredit, State.opensLive, plainCredit, apply_ite creditCode]

/-- The slot as OPEN leaves it (R2, R30, R31). -/
def State.openedSlot (s : State) (i : Slot) (a : OpenArgs) : SlotState :=
  SlotState.sealed
    { life := if s.opensLive a.channel then .live else .waiting
      generation := nextGeneration (s.slotAt i).counter
      counter := nextGeneration (s.slotAt i).counter
      body := { openBody a (s.store.openSerial + 1#32) with credit := s.openedCredit a }
      word := 0#16 } i

/-- The list of the channel as OPEN leaves it: the new account first if LIVE, else last (R31). -/
def State.openedList (s : State) (i : Slot) (a : OpenArgs) : List Handle :=
  let h := handleOf i (nextGeneration (s.slotAt i).counter)
  if s.opensLive a.channel then h :: s.listAt a.channel else s.listAt a.channel ++ [h]

/-- The state that OPEN leaves before its notices and its answer. -/
def State.opened (s : State) (i : Slot) (a : OpenArgs) : State :=
  { s with
    store := { s.store with
      slots := s.store.slots.set i (s.openedSlot i a)
      lists := s.store.lists.set a.channel (s.openedList i a)
      openSerial := s.store.openSerial + 1#32 }
    au := { s.au with
      inbox := s.au.inbox
        ++ (if s.opensLive a.channel then entryMessages i 0#8 (s.openedCredit a) else []) }
    ru := { s.ru with inbox := s.ru.inbox ++ [(.store, .account i), (.store, .settings)] } }

theorem State.openAt_eq (s : State) (i : Slot) (a : OpenArgs) :
    s.openAt i a
      = { state := s.opened i a
          outcome := .ok
          payload := le16 (handleOf i (nextGeneration (s.slotAt i).counter))
            ++ [lifeCode (s.openedSlot i a).life] ++ le32 (s.store.openSerial + 1#32)
            ++ [(s.openedSlot i a).body.credit] } := by
  unfold State.openAt State.opened State.openedSlot State.openedList State.openedCredit State.opensLive
  cases occupied : s.occupant a.channel with
  | none =>
    simp [openBody_evaluated, State.raiseEntered_eq, State.putRecord, State.setSlot, State.setList, State.dirtyAccount,
      State.dirty, State.setRu]
  | some k =>
    simp only [State.putRecord, State.setSlot, State.setList, State.dirtyAccount, State.dirty, State.setRu,
      reduceCtorEq, ↓reduceIte, Option.isNone_some, Bool.false_eq_true, List.append_nil, List.append_assoc,
      List.singleton_append]
    rfl

theorem State.opened_onlyHandsOff (s : State) (i : Slot) (a : OpenArgs) : s.OnlyHandsOff (s.opened i a) := rfl

theorem State.opened_slotAt (s : State) (i j : Slot) (a : OpenArgs) :
    (s.opened i a).slotAt j = if i = j then s.openedSlot i a else s.slotAt j :=
  s.setSlot_slotAt i j _

/-! ## The checks of OPEN -/

/-- The slot that OPEN allocates is the lowest FREE one (R2). -/
theorem State.freeSlot_eq_some {s : State} {i : Slot} (free : s.lifeAt i = .free)
    (lowest : ∀ j, j < i → s.lifeAt j ≠ .free) : s.freeSlot = some i := by
  rw [State.freeSlot, slots, List.find?_eq_some_iff_getElem]
  refine ⟨by simp [free], i.val, by simp, by simp, fun j hj => ?_⟩
  simpa using lowest ⟨j, by omega⟩ hj

theorem State.carries_eq_true_iff (s : State) (r : Reference) (j : Slot) :
    s.carries r j = true ↔ s.lifeAt j ≠ .free ∧ s.lifeAt j ≠ .lost ∧ (s.bodyAt j).reference = r := by
  cases hl : s.lifeAt j <;> simp [State.carries, hasReference, hl]

/-- An OPEN that passes the checks of R29 over intact records comes to its allocation. -/
theorem State.openAccount_of_passes {s : State} {i : Slot} {a : OpenArgs} (intact : s.IntegrityLaw)
    (allocated : s.freeSlot = some i) (serial : s.store.openSerial ≠ serialLimit)
    (unique : ∀ j, s.carries a.reference j = false) (room : (s.listAt a.channel).length < channelCapacity) :
    s.openAccount a = s.openAt i a := by
  have unchanged : s.checkCompared slots = s := s.checkCompared_eq_of_intact slots fun j _ => intact j
  simp [State.openAccount, allocated, serial, unchanged, unique, room]

/-! ## The statement -/

/-- Settles O24: over intact records the checks leave the state as it was, the allocation is one change of the Store
with its hand-offs, and the end of the claim adds the notices and the answer. -/
theorem openWritesTheRecord : Obligations.OpenWritesTheRecord := by
  unfold Obligations.OpenWritesTheRecord
  intro s q a i hq ht intact free lowest serial unique room _
  have passes : s.openAccount a = s.openAt i a :=
    State.openAccount_of_passes intact (State.freeSlot_eq_some free lowest) serial
      (fun j => by
        rw [Bool.eq_false_iff, ne_eq, State.carries_eq_true_iff]
        exact fun ⟨used, kept, same⟩ => unique j used kept same)
      room
  have handsOff : s.OnlyHandsOff (s.openAt i a).state := by
    rw [State.openAt_eq]
    exact s.opened_onlyHandsOff i a
  have store : (s.finishClaim (s.openAt i a)).store = (s.opened i a).store := by
    rw [State.finishClaim_store, State.openAt_eq]
  have slot : (s.finishClaim (s.openAt i a)).slotAt i = s.openedSlot i a := by
    rw [slotAt_congr store, State.opened_slotAt, if_pos rfl]
  have body : (s.finishClaim (s.openAt i a)).bodyAt i = (s.openedSlot i a).body := congrArg SlotState.body slot
  have life : (s.finishClaim (s.openAt i a)).lifeAt i = (s.openedSlot i a).life := congrArg SlotState.life slot
  have intactAfter : (s.finishClaim (s.openAt i a)).intactAt i = true := by
    rw [State.intactAt, slot]
    exact SlotState.sealed_intact _ i
  have others (j : Slot) (other : j ≠ i) : (s.finishClaim (s.openAt i a)).slotAt j = s.slotAt j := by
    rw [slotAt_congr store, State.opened_slotAt, if_neg other.symm]
  have messages : (s.finishClaim (s.openAt i a)).au = (s.opened i a).au := by
    rw [State.finishClaim_au, State.openAt_eq]
  have dirtyings : (s.finishClaim (s.openAt i a)).ru = (s.opened i a).ru := by
    rw [State.finishClaim_ru, State.openAt_eq]
  have answered := handsOff.answered hq
  rw [congrArg Taken.outcome (s.openAt_eq i a), congrArg Taken.payload (s.openAt_eq i a)] at answered
  dsimp only
  refine ⟨s.finishClaim (s.openAt i a), by rw [exec_of_wholeClaim rfl hq ht, passes], ?_⟩
  rw [body, life, slot, store]
  -- R2, R4: the directory entry, the word, and the open serial counter.
  refine ⟨rfl, rfl, rfl, intactAfter, rfl, rfl, ?_⟩
  -- R30: the sixteen fields that come from the request or start absent, then the status and the credit state (R31).
  refine ⟨rfl, rfl, rfl, rfl, rfl, rfl, rfl, rfl, rfl, rfl, rfl, rfl, rfl, rfl, rfl, rfl,
    openBody_emergency a (s.store.openSerial + 1#32), s.openedCredit_eq a, ?_⟩
  -- R18, R31: the other slots, the list, and what the claim hands off.
  exact ⟨others, rfl, messages, ⟨[(.store, .account i), (.store, .settings)], .refl _, dirtyings⟩,
    handsOff.handOffFrame, handsOff.fieldFrame, answered⟩

end Sys2Proof.Machine
end

section
/-! Proofs about credit: the evaluation (R48 to R50), the end of every change of a record (R47, R51), TOP_UP (R56 to
R58) and the engagement of the emergency credit (R54, R55). -/

namespace Sys2Proof.Machine

/-! ## Codes -/

theorem emergencyOfCode_eq_some_iff (b : Byte) (e : Emergency) :
    emergencyOfCode b = some e ↔ b = emergencyCode e := by
  constructor
  · unfold emergencyOfCode
    split_ifs with isNone isAvailable isInUse isSpent
    · rintro ⟨⟩; exact isNone
    · rintro ⟨⟩; exact isAvailable
    · rintro ⟨⟩; exact isInUse
    · rintro ⟨⟩; exact isSpent
    · nofun
  · rintro rfl
    exact emergencyOfCode_emergencyCode e

theorem emergencyCode_inj {e f : Emergency} : emergencyCode e = emergencyCode f ↔ e = f := by
  rw [← emergencyOfCode_eq_some_iff, emergencyOfCode_emergencyCode, Option.some_inj]

theorem creditOfCode_eq_some_iff (b : Byte) (c : Credit) : creditOfCode b = some c ↔ b = creditCode c := by
  constructor
  · unfold creditOfCode
    split_ifs with isNormal isLow isEmergency isExhausted
    · rintro ⟨⟩; exact isNormal
    · rintro ⟨⟩; exact isLow
    · rintro ⟨⟩; exact isEmergency
    · rintro ⟨⟩; exact isExhausted
    · nofun
  · rintro rfl
    cases c <;> rfl

/-! ## The evaluation -/

/-- R49 for a record whose emergency byte holds a status. -/
theorem Body.statusAfter_of_code {b : Body} {found : Emergency} (held : b.emergency = emergencyCode found)
    (rising : Bool) :
    b.statusAfter rising = emergencyStep rising b.balance.toInt b.allowance.toNat found := by
  rw [Body.statusAfter, Body.status, held, emergencyOfCode_emergencyCode, Option.getD_some]

/-- The evaluated record shows a status exactly when the step has left it. -/
theorem Body.evaluated_emergency_iff (b : Body) (rising : Bool) (e : Emergency) :
    (b.evaluated rising).emergency = emergencyCode e ↔ b.statusAfter rising = e :=
  emergencyCode_inj

theorem Body.evaluated_credit (b : Body) (rising : Bool) :
    (b.evaluated rising).credit
      = creditCode (creditFound b.balance.toInt b.threshold.toNat (b.statusAfter rising)) := rfl

theorem creditCode_plainCredit (balance : Int) (threshold : Nat) :
    creditCode (plainCredit balance threshold)
      = if balance > threshold then creditCode .normal
        else if balance > 0 then creditCode .low else creditCode .exhausted := by
  simp only [plainCredit, apply_ite creditCode]

/-! ## The end of a charge, credit or change of limits -/

theorem State.conclude_bodyAt_self (s : State) (i : Slot) (b : Body) (rising : Bool) :
    (s.conclude i b rising).bodyAt i = if s.lifeAt i = .live then b.evaluated rising else b.stepped rising := by
  rw [State.bodyAt, State.conclude_slotAt, if_pos rfl, SlotState.sealed_body]

/-- Neither the evaluation nor the status step touches what a credit or a charge has moved. -/
theorem State.conclude_bodyAt_keeps {α : Type} (f : Body → α) (s : State) (i : Slot) (b : Body) (rising : Bool)
    (evaluated : f (b.evaluated rising) = f b) (stepped : f (b.stepped rising) = f b) :
    f ((s.conclude i b rising).bodyAt i) = f b := by
  rw [State.conclude_bodyAt_self, apply_ite f, evaluated, stepped, ite_self]

/-- The record is written with its word, and nothing else of the Store changes. -/
theorem State.conclude_storeFrame (s : State) (i : Slot) (b : Body) (rising : Bool) :
    StoreFrame s (s.conclude i b rising) i where
  others j other := by rw [State.conclude_slotAt, if_neg other.symm]
  life := by rw [State.lifeAt, State.conclude_slotAt, if_pos rfl]; rfl
  generation := by rw [State.conclude_slotAt, if_pos rfl]; rfl
  counter := by rw [State.conclude_slotAt, if_pos rfl]; rfl
  intact := by rw [State.intactAt, State.conclude_slotAt, if_pos rfl, SlotState.sealed_intact]
  lists := s.conclude_store_lists i b rising
  openSerial := s.conclude_store_openSerial i b rising

/-- What such a claim raises (R51): of a LIVE account, the cause of a credit state entered. -/
theorem State.conclude_au (s : State) (i : Slot) (b : Body) (rising : Bool) :
    (s.conclude i b rising).au = { s.au with
      inbox := s.au.inbox
        ++ (if s.lifeAt i = .live then
            entryMessages i (s.bodyAt i).credit ((s.conclude i b rising).bodyAt i).credit else []) } := by
  rw [State.conclude_bodyAt_self]
  unfold State.conclude
  split
  case _ live => simp [live, State.raiseEntered_eq]
  all_goals
    rename_i other
    simp [other]

theorem State.conclude_onlyHandsOff (s : State) (i : Slot) (b : Body) (rising : Bool) :
    s.OnlyHandsOff (s.conclude i b rising) := by
  unfold State.conclude State.OnlyHandsOff
  split
  · rw [State.raiseEntered_eq]
    rfl
  all_goals rfl

/-- The frame speaks of the Store's own part alone. -/
theorem StoreFrame.congr {s t u : State} {i : Slot} (frame : StoreFrame s u i) (same : t.store = u.store) :
    StoreFrame s t i where
  others j other := (slotAt_congr same j).trans (frame.others j other)
  life := (lifeAt_congr same i).trans frame.life
  generation := by rw [slotAt_congr same, frame.generation]
  counter := by rw [slotAt_congr same, frame.counter]
  intact := (intactAt_congr same i).trans frame.intact
  lists := by rw [same, frame.lists]
  openSerial := by rw [same, frame.openSerial]

/-- A request that ends in a charge, a credit or a change of limits: what it leaves in the record, and all that it hands
off (R18, R51). -/
theorem State.finishClaim_of_concludes {s : State} {q : Request} {c : Claim} {t : Taken} {i : Slot} {b : Body}
    {rising : Bool} (hq : s.Serves q c) (concludes : t.state = s.conclude i b rising) :
    (s.finishClaim t).bodyAt i = (if s.lifeAt i = .live then b.evaluated rising else b.stepped rising)
      ∧ StoreFrame s (s.finishClaim t) i ∧ (s.finishClaim t).store.billing = s.store.billing
      ∧ HandOffFrame s (s.finishClaim t) ∧ FieldFrame s (s.finishClaim t)
      ∧ (s.finishClaim t).ru.inbox = s.ru.inbox ++ [(.store, .account i)]
      ∧ (s.finishClaim t).au.inbox
          = s.au.inbox ++ (if s.lifeAt i = .live then
              entryMessages i (s.bodyAt i).credit ((s.finishClaim t).bodyAt i).credit else [])
      ∧ (s.finishClaim t).Answered q t.outcome t.payload := by
  have handsOff : s.OnlyHandsOff t.state := concludes ▸ s.conclude_onlyHandsOff i b rising
  have store : (s.finishClaim t).store = (s.conclude i b rising).store := by
    rw [State.finishClaim_store, concludes]
  have body : (s.finishClaim t).bodyAt i = (s.conclude i b rising).bodyAt i := bodyAt_congr store i
  refine ⟨body.trans (s.conclude_bodyAt_self i b rising), (s.conclude_storeFrame i b rising).congr store, ?_,
    handsOff.handOffFrame, handsOff.fieldFrame, ?_, ?_, handsOff.answered hq⟩
  · rw [store, State.conclude_store_billing]
  · rw [State.finishClaim_ru, concludes, State.conclude_ru]
  · rw [State.finishClaim_au, body, concludes, State.conclude_au]

/-! ## The statement on the evaluation -/

/-- Settles O31: the status step and the credit state are read off the two tables row by row, and the record of a LIVE
account is written as evaluated. -/
theorem evaluationFollowsTheTables : Obligations.EvaluationFollowsTheTables := by
  unfold Obligations.EvaluationFollowsTheTables
  intro b rising found held
  dsimp only
  simp only [Body.evaluated_emergency_iff, Body.evaluated_credit, ← creditCode_plainCredit]
  rw [Body.statusAfter_of_code held]
  refine ⟨?recovers, ?spends, ?lasts, ?restored, ?staysSpent, ?available, ?absent, ?emergency, ?inCredit, ?exhausted,
    ?plain, rfl, ?written⟩
  case recovers =>
    rintro rfl rising positive
    exact if_pos ⟨rising, positive⟩
  case spends =>
    rintro rfl unmoved beyond
    exact (if_neg unmoved).trans (if_pos beyond)
  case lasts =>
    rintro rfl unmoved within
    exact (if_neg unmoved).trans (if_neg (not_le.mpr within))
  case restored =>
    rintro rfl positive
    exact if_pos positive
  case staysSpent =>
    rintro rfl owed
    exact if_neg (not_lt.mpr owed)
  case available | absent =>
    rintro rfl
    rfl
  case emergency =>
    intro status owed
    rw [status, creditFound, if_pos owed]
  case inCredit =>
    intro status positive
    rw [status, creditFound, if_neg (not_le.mpr positive)]
  case exhausted =>
    intro status owed
    rw [status, creditFound, if_pos owed]
  case plain =>
    rintro (status | status)
    all_goals rw [status, creditFound]
  case written =>
    intro s i live
    exact ⟨(s.conclude_bodyAt_self i b rising).trans (if_pos live), (s.conclude_storeFrame i b rising).intact⟩

/-! ## The first checks of a claim by handle -/

/-- An account in WAITING or LIVE that passes its check passes the first checks of a claim by handle (R56). -/
theorem State.named_of_open {s : State} {h : Handle} {i : Slot} (resolved : s.resolve h = some i)
    (intact : s.intactAt i = true) (isOpen : s.lifeAt i = .live ∨ s.lifeAt i = .waiting) : s.named h = .found i := by
  rcases isOpen with life | life <;> simp [State.named, resolved, life, intact]

theorem staleVersion_eq_false_iff (expected : Option (BitVec 16)) (b : Body) :
    staleVersion expected b = false ↔ expected = none ∨ expected = some b.version := by
  cases expected <;> simp [staleVersion]

/-! ## TOP_UP -/

/-- The sums of R57 stand in the widths of their fields. -/
theorem Body.toppedUp_eq (b : Body) (voucher amount : BitVec 32) :
    b.toppedUp voucher amount
      = { b with
          balance := BitVec.ofInt 32 (b.balance.toInt + amount.toNat)
          credited := BitVec.ofNat 48 (b.credited.toNat + amount.toNat)
          vouchers := (voucher :: b.vouchers).take 4
          version := b.version + 1#16 } := by
  have balance : BitVec.ofInt 32 (b.balance.toInt + amount.toNat) = b.balance + amount := by
    rw [BitVec.ofInt_add, BitVec.ofInt_toInt, BitVec.ofInt_natCast, BitVec.ofNat_toNat, BitVec.setWidth_eq]
  have credited : BitVec.ofNat 48 (b.credited.toNat + amount.toNat) = b.credited + amount.setWidth 48 := by
    rw [BitVec.ofNat_add, BitVec.ofNat_toNat, BitVec.ofNat_toNat, BitVec.setWidth_eq]
  rw [balance, credited, Body.toppedUp]

theorem Body.topUpFits_iff (b : Body) (amount : BitVec 32) :
    b.topUpFits amount = true ↔
      -2000000000 ≤ b.balance.toInt + amount.toNat ∧ b.balance.toInt + amount.toNat ≤ 2000000000
        ∧ b.credited.toNat + amount.toNat ≤ 2 ^ 48 - 1 := by
  rw [Body.topUpFits, Bool.and_eq_true, Bool.and_eq_true, decide_eq_true_iff, decide_eq_true_iff, decide_eq_true_iff]
  exact and_assoc

/-- A TOP_UP that passes the checks of R56 comes to its credit. -/
theorem State.topUp_of_passes {s : State} {a : TopUpArgs} {i : Slot} (resolved : s.resolve a.handle = some i)
    (intact : s.intactAt i = true) (isOpen : s.lifeAt i = .live ∨ s.lifeAt i = .waiting)
    (fresh : a.voucher ∉ (s.bodyAt i).vouchers) (current : staleVersion a.expected (s.bodyAt i) = false)
    (fits : (s.bodyAt i).topUpFits a.amount = true) :
    s.topUp a
      = { state := s.conclude i ((s.bodyAt i).toppedUp a.voucher a.amount) true
          outcome := .ok
          payload := (s.conclude i ((s.bodyAt i).toppedUp a.voucher a.amount) true).creditPayload i } := by
  have unsettled : s.lifeAt i ≠ .settled := by rcases isOpen with life | life <;> simp [life]
  simp [State.topUp, State.named_of_open resolved intact isOpen, unsettled, fresh, current, fits]

/-- R183: an answer carries the credit state of a LIVE account, and its absent form of a WAITING one. -/
theorem State.creditBytes_of_open {s : State} {i : Slot} (isOpen : s.lifeAt i = .live ∨ s.lifeAt i = .waiting) :
    s.creditBytes i
      = [if s.lifeAt i = .live then (s.bodyAt i).credit else 0#8, (s.bodyAt i).emergency] := by
  rcases isOpen with life | life <;> simp [State.creditBytes, life, Body.shown]

/-- The payload of an OK to a credit shows the record that the credit has written (Table 10-6). -/
theorem State.conclude_creditPayload {s : State} {i : Slot} (isOpen : s.lifeAt i = .live ∨ s.lifeAt i = .waiting)
    (b : Body) (rising : Bool) :
    (s.conclude i b rising).creditPayload i
      = le32 b.balance ++ le16 b.version
        ++ [if s.lifeAt i = .live then ((s.conclude i b rising).bodyAt i).credit else 0#8,
          ((s.conclude i b rising).bodyAt i).emergency] := by
  have kept : (s.conclude i b rising).lifeAt i = s.lifeAt i := (s.conclude_storeFrame i b rising).life
  rw [State.creditPayload, State.creditBytes_of_open (kept ▸ isOpen), kept,
    State.conclude_bodyAt_keeps Body.balance s i b rising rfl rfl,
    State.conclude_bodyAt_keeps Body.version s i b rising rfl rfl]

/-- Settles O33: the checks passed, the claim ends as every credit does, and its answer is read from the record that it
has written. -/
theorem topUpCredits : Obligations.TopUpCredits := by
  unfold Obligations.TopUpCredits
  intro s q a i
  dsimp only
  intro hq ht resolved intact isOpen fresh current above below room
  rw [← Body.toppedUp_eq (s.bodyAt i) a.voucher a.amount]
  have credits := State.topUp_of_passes resolved intact isOpen fresh ((staleVersion_eq_false_iff _ _).mpr current)
    ((Body.topUpFits_iff _ _).mpr ⟨above, below, room⟩)
  have concludes : (s.topUp a).state = s.conclude i ((s.bodyAt i).toppedUp a.voucher a.amount) true :=
    congrArg Taken.state credits
  obtain ⟨body, store, billing, handOffs, fields, dirtied, raised, answered⟩ :=
    State.finishClaim_of_concludes hq concludes
  refine ⟨s.finishClaim (s.topUp a), exec_of_wholeClaim rfl hq ht, body, store, billing, handOffs, fields, dirtied,
    raised, ?_⟩
  have written : (s.finishClaim (s.topUp a)).store = (s.conclude i _ true).store :=
    (s.finishClaim_store _).trans (congrArg State.store concludes)
  have balance := congrArg Body.balance (Body.toppedUp_eq (s.bodyAt i) a.voucher a.amount)
  have payload := congrArg Taken.payload credits
  rw [State.conclude_creditPayload isOpen, balance, ← bodyAt_congr written] at payload
  rw [congrArg Taken.outcome credits, payload] at answered
  exact answered

/-! ## A claim of a Supply Controller -/

/-- The notices of a claim are the last of its hand-offs (R18, R28). -/
theorem State.OnlyHandsOff.sendNotices_handOffFrame {s u : State} (h : s.OnlyHandsOff u) :
    HandOffFrame s (u.sendNotices s) where
  tariffs := by rw [State.sendNotices_tu, h]
  retention := by rw [State.sendNotices_ru, h]
  attention := by rw [State.sendNotices_au, h]
  notices n := by
    rw [State.sendNotices_scAt, viewOf_congr (State.sendNotices_store u s), scAt_congr (by rw [h] : u.sc = s.sc)]
    split <;> simp
  supplies n := by
    rw [State.sendNotices_scAt, scAt_congr (by rw [h] : u.sc = s.sc)]
    split <;> rfl
  link := by rw [State.sendNotices_hl, h]
  pins := by rw [State.sendNotices_pins, h]
  samples := by rw [State.sendNotices_samples, h]
  pending := by rw [State.sendNotices_pending, h]

theorem State.sendNotices_engage (u s : State) (n : Channel) :
    ((u.sendNotices s).scAt n).engage = (u.scAt n).engage := by
  rw [State.sendNotices_scAt]
  split <;> rfl

@[simp] theorem State.returnEngage_store (s : State) (n : Channel) (e : Engage) (r : EngageResult) :
    (s.returnEngage n e r).store = s.store := rfl
@[simp] theorem State.returnEngage_cq (s : State) (n : Channel) (e : Engage) (r : EngageResult) :
    (s.returnEngage n e r).cq = s.cq := rfl
@[simp] theorem State.returnEngage_le (s : State) (n : Channel) (e : Engage) (r : EngageResult) :
    (s.returnEngage n e r).le = s.le := rfl
@[simp] theorem State.returnEngage_re (s : State) (n : Channel) (e : Engage) (r : EngageResult) :
    (s.returnEngage n e r).re = s.re := rfl
@[simp] theorem State.returnEngage_au (s : State) (n : Channel) (e : Engage) (r : EngageResult) :
    (s.returnEngage n e r).au = s.au := rfl
@[simp] theorem State.returnEngage_ru (s : State) (n : Channel) (e : Engage) (r : EngageResult) :
    (s.returnEngage n e r).ru = s.ru := rfl

theorem State.returnEngage_scAt (s : State) (n m : Channel) (e : Engage) (r : EngageResult) :
    (s.returnEngage n e r).scAt m
      = if n = m then { s.scAt n with engage := some { e with answer := some r } } else s.scAt m :=
  s.setSc_scAt n m _

theorem State.returnEngage_engage_self (s : State) (n : Channel) (e : Engage) (r : EngageResult) :
    ((s.returnEngage n e r).scAt n).engage = some { e with answer := some r } := by
  rw [State.returnEngage_scAt, if_pos rfl]

theorem State.returnEngage_scAt_other (s : State) {n m : Channel} (e : Engage) (r : EngageResult) (other : m ≠ n) :
    (s.returnEngage n e r).scAt m = s.scAt m := by
  rw [State.returnEngage_scAt, if_neg other.symm]

/-- The result sent back is within the frame of a claim (R18). -/
theorem HandOffFrame.returnEngage {s t : State} (frame : HandOffFrame s t) (n : Channel) (e : Engage)
    (r : EngageResult) : HandOffFrame s (t.returnEngage n e r) where
  tariffs := frame.tariffs
  retention := frame.retention
  attention := frame.attention
  notices m := by
    have unmoved : ((t.returnEngage n e r).scAt m).notices = (t.scAt m).notices := by
      rw [State.returnEngage_scAt]
      split
      case _ same => rw [same]
      case _ => rfl
    rw [unmoved]
    exact frame.notices m
  supplies m := by
    rw [← frame.supplies m, State.returnEngage_scAt]
    split
    case _ same => rw [same]
    case _ => rfl
  link := frame.link
  pins := frame.pins
  samples := frame.samples
  pending := frame.pending

/-! ## The engagement of the emergency credit -/

/-- Conditions 5 and 6 of R54, in the codes of the record. -/
theorem Body.mayEngage_iff (b : Body) :
    b.mayEngage = true ↔ b.allowance ≠ 0#32 ∧ b.emergency = emergencyCode .available
      ∧ (b.credit = creditCode .low ∨ b.credit = creditCode .exhausted) := by
  simp only [Body.mayEngage, Bool.and_eq_true, Bool.or_eq_true, bne_iff_ne, beq_iff_eq, emergencyOfCode_eq_some_iff,
    creditOfCode_eq_some_iff, and_assoc]

theorem Body.mayEngage_eq_false_iff (b : Body) :
    b.mayEngage = false ↔ b.allowance = 0#32 ∨ b.emergency ≠ emergencyCode .available
      ∨ (b.credit ≠ creditCode .low ∧ b.credit ≠ creditCode .exhausted) := by
  rw [← Bool.not_eq_true, Body.mayEngage_iff, not_and_or, not_and_or, not_or, ne_eq, not_not]

/-- The record of an engagement (R55): the status IN_USE, evaluated without rising. -/
def Body.engaged (b : Body) : Body := Body.evaluated { b with emergency := emergencyCode .inUse } false

/-- The state in which the Store has taken the claim, before the notices (R55). -/
def State.engagedAt (s : State) (i : Slot) : State :=
  s.conclude i { s.bodyAt i with emergency := emergencyCode .inUse } false

/-- R13: a LIVE account that fails its check is quarantined held LIVE. -/
theorem State.check_of_live {s : State} {i : Slot} (live : s.lifeAt i = .live) (broken : s.intactAt i = false) :
    s.check i = s.quarantine i .live := by
  rw [State.lifeAt] at live
  rw [State.intactAt] at broken
  simp [State.check, live, broken]

section Engage

variable {s : State} {n : Channel} {e : Engage} {i : Slot}

/-- An engage claim that waits at the Store is answered by what the Store makes of it (R114). -/
theorem exec_emergencyEngage_of_waits (takes : s.storeTakes = true) (waits : (s.scAt n).engage = some e)
    (unanswered : e.answer = none) {u : State} {r : EngageResult} (answers : s.engage n e.handle = (u, r)) :
    exec (.emergencyEngage n) s = .next (u.returnEngage n e r) := by
  have due : s.engageDue n = some e := by
    rw [State.engageDue, if_pos takes, show s.sc[n].engage = some e from waits, Option.filter_some, unanswered]
    rfl
  simp only [exec, execEmergencyEngage, due, answers]

/-- R54, conditions 2 to 4: the claim names no account, or not the LIVE occupant. -/
theorem State.engage_of_not_occupant {h : Handle}
    (elsewhere : ∀ i, s.resolve h = some i → s.occupant n ≠ some i ∨ s.lifeAt i ≠ .live) :
    s.engage n h = (s, .declined) := by
  unfold State.engage
  cases resolved : s.resolve h with
  | none => rfl
  | some i => exact if_pos (elsewhere i resolved)

/-- A claim that names the LIVE occupant is declined where the record fails its check, which is then handled (R13). -/
theorem State.engage_of_mismatch {h : Handle} (resolved : s.resolve h = some i) (occupies : s.occupant n = some i)
    (live : s.lifeAt i = .live) (broken : s.intactAt i = false) :
    s.engage n h = ((s.check i).sendNotices s, .declined) := by
  simp [State.engage, resolved, occupies, live, broken]

/-- It is declined where conditions 5 and 6 of R54 do not hold of the record. -/
theorem State.engage_of_unavailable {h : Handle} (resolved : s.resolve h = some i) (occupies : s.occupant n = some i)
    (live : s.lifeAt i = .live) (intact : s.intactAt i = true) (unavailable : (s.bodyAt i).mayEngage = false) :
    s.engage n h = (s, .declined) := by
  simp [State.engage, resolved, occupies, live, intact, unavailable]

theorem State.engagedAt_bodyAt_self (live : s.lifeAt i = .live) : (s.engagedAt i).bodyAt i = (s.bodyAt i).engaged :=
  (s.conclude_bodyAt_self i _ false).trans (if_pos live)

/-- Else it is taken (R55). -/
theorem State.engage_of_available {h : Handle} (resolved : s.resolve h = some i) (occupies : s.occupant n = some i)
    (live : s.lifeAt i = .live) (intact : s.intactAt i = true) (available : (s.bodyAt i).mayEngage = true) :
    s.engage n h
      = ((s.engagedAt i).sendNotices s,
          .taken (creditOfCode (s.bodyAt i).engaged.credit) (emergencyOfCode (s.bodyAt i).engaged.emergency)) := by
  rw [← State.engagedAt_bodyAt_self live]
  simp [State.engage, State.engagedAt, resolved, occupies, live, intact, available]

/-- A claim that changes nothing gives its controller the result alone. -/
theorem exec_emergencyEngage_of_declined (takes : s.storeTakes = true) (waits : (s.scAt n).engage = some e)
    (unanswered : e.answer = none) (declined : s.engage n e.handle = (s, .declined)) :
    exec (.emergencyEngage n) s
      = .next { s with
          sc := s.sc.set n { s.scAt n with engage := some { e with answer := some .declined } } } := by
  rw [exec_emergencyEngage_of_waits takes waits unanswered declined]
  rfl

/-- R55: what a claim that is taken leaves in the record, and all that it hands off (R18, R51). -/
theorem State.engagedAt_effect (live : s.lifeAt i = .live) (n : Channel) (e : Engage) (r : EngageResult) :
    let t := ((s.engagedAt i).sendNotices s).returnEngage n e r
    t.bodyAt i = (s.bodyAt i).engaged
      ∧ StoreFrame s t i ∧ t.store.billing = s.store.billing ∧ HandOffFrame s t
      ∧ t.cq = s.cq ∧ t.le = s.le ∧ t.re = s.re
      ∧ (t.scAt n).engage = some { e with answer := some r }
      ∧ (∀ m, m ≠ n → (t.scAt m).engage = (s.scAt m).engage)
      ∧ t.ru.inbox = s.ru.inbox ++ [(.store, .account i)]
      ∧ t.au.inbox = s.au.inbox ++ entryMessages i (s.bodyAt i).credit (t.bodyAt i).credit := by
  intro t
  have handsOff : s.OnlyHandsOff (s.engagedAt i) := s.conclude_onlyHandsOff i _ false
  have store : t.store = (s.engagedAt i).store := by rw [State.returnEngage_store, State.sendNotices_store]
  have body : t.bodyAt i = (s.engagedAt i).bodyAt i := bodyAt_congr store i
  refine ⟨?body, (s.conclude_storeFrame i _ false).congr store, ?billing,
    handsOff.sendNotices_handOffFrame.returnEngage n e r, ?cq, ?le, ?re, State.returnEngage_engage_self _ n e r,
    ?engages, ?dirtied, ?raised⟩
  case body => rw [body, State.engagedAt_bodyAt_self live]
  case billing => rw [store, State.engagedAt, State.conclude_store_billing]
  case cq => rw [State.returnEngage_cq, State.sendNotices_cq, State.engagedAt, State.conclude_cq]
  case le => rw [State.returnEngage_le, State.sendNotices_le, State.engagedAt, State.conclude_le]
  case re => rw [State.returnEngage_re, State.sendNotices_re, State.engagedAt, State.conclude_re]
  case engages =>
    intro m other
    rw [State.returnEngage_scAt_other _ e r other, State.sendNotices_engage, State.engagedAt,
      scAt_congr (s.conclude_sc i _ false)]
  case dirtied => rw [State.returnEngage_ru, State.sendNotices_ru, State.engagedAt, State.conclude_ru]
  case raised =>
    rw [State.returnEngage_au, State.sendNotices_au, body, State.engagedAt, State.conclude_au, if_pos live]

/-- R13: what a claim whose record fails its check leaves in the Store. -/
theorem State.check_effect_of_live (live : s.lifeAt i = .live) (broken : s.intactAt i = false) (n : Channel)
    (e : Engage) (r : EngageResult) :
    let t := ((s.check i).sendNotices s).returnEngage n e r
    t.lifeAt i = .quarantined .live ∧ t.bodyAt i = s.bodyAt i
      ∧ (t.scAt n).engage = some { e with answer := some r }
      ∧ (∀ j, j ≠ i → t.slotAt j = s.slotAt j) ∧ t.store.lists = s.store.lists := by
  intro t
  have store : t.store = (s.check i).store := by rw [State.returnEngage_store, State.sendNotices_store]
  have slot : t.slotAt i = SlotState.sealed { s.slotAt i with life := .quarantined .live } i := by
    rw [slotAt_congr store, State.check_of_live live broken, State.quarantine_slotAt, if_pos rfl]
  refine ⟨by rw [State.lifeAt, slot]; rfl, by rw [State.bodyAt, slot]; rfl, State.returnEngage_engage_self _ n e r,
    fun j other => ?_, ?_⟩
  · rw [slotAt_congr store, State.check_other s i j other]
  · rw [store, State.check_store_lists]

end Engage

/-- Settles O38: a claim that passes ends as every change of a record does; one that does not leaves the state as it
was, or quarantines the record that fails its check. -/
theorem emergencyEngaged : Obligations.EmergencyEngaged := by
  unfold Obligations.EmergencyEngaged
  intro s n e
  dsimp only
  intro takes waits unanswered
  refine ⟨?taken, ?elsewhere, ?unavailable, ?mismatch⟩
  case taken =>
    intro i resolved occupies live intact allowance status credit
    have available : (s.bodyAt i).mayEngage = true := (Body.mayEngage_iff _).mpr ⟨allowance, status, credit⟩
    have answers := State.engage_of_available resolved occupies live intact available
    obtain ⟨body, store, billing, handOffs, cq, le, re, engage, engages, dirtied, raised⟩ :=
      State.engagedAt_effect live n e
        (.taken (creditOfCode (s.bodyAt i).engaged.credit) (emergencyOfCode (s.bodyAt i).engaged.emergency))
    refine ⟨_, exec_emergencyEngage_of_waits takes waits unanswered answers, body, store, billing, handOffs, cq, le,
      re, ?_, engages, dirtied, raised⟩
    rw [body]
    exact engage
  case elsewhere =>
    intro elsewhere
    exact exec_emergencyEngage_of_declined takes waits unanswered (State.engage_of_not_occupant elsewhere)
  case unavailable =>
    intro i resolved occupies live intact unavailable
    exact exec_emergencyEngage_of_declined takes waits unanswered
      (State.engage_of_unavailable resolved occupies live intact ((Body.mayEngage_eq_false_iff _).mpr unavailable))
  case mismatch =>
    intro i resolved occupies live broken
    have answers := State.engage_of_mismatch resolved occupies live broken
    exact ⟨_, exec_emergencyEngage_of_waits takes waits unanswered answers,
      State.check_effect_of_live live broken n e .declined⟩

end Sys2Proof.Machine
end

section
/-! Proofs about the host link: the bytes of a request frame and the checks at its end (R167). -/

namespace Sys2Proof.Machine

/-! ## Events of a request frame -/

section RequestFrame

variable {s : State}

theorem exec_requestFrame (e : LinkEvent) (s : State) : exec (.requestFrame e) s = execRequestFrame e s := rfl

/-- An event that goes on or ends with the frame in REQUEST is the link's to handle (R162). -/
theorem exec_requestFrame_of_continues {e : LinkEvent} (possible : e.ofRequestFrame = true)
    (goesOn : s.hl.continues .request e = true) : exec (.requestFrame e) s = .next (s.linkEvent e) := by
  simp [exec_requestFrame, execRequestFrame, possible, goesOn]

/-- A byte of a request frame is counted, shifts out the byte before it, and is stored while the frame has room. -/
theorem State.linkByte_of_request (frame : s.hl.frame = .request) (b : Byte) :
    s.linkByte b = s.setHl { s.hl.counted fillByte with
      stored := if s.hl.stored.length < storedLimit then s.hl.stored ++ [b] else s.hl.stored } := by
  simp only [State.linkByte, frame]

/-- The deassertion of CSN ends a frame in REQUEST. -/
theorem State.linkDeassert_of_request (frame : s.hl.frame = .request) : s.linkDeassert = s.endRequest := by
  simp only [State.linkDeassert, frame]

/-- The end of a request frame records the result of its checks, and queues the request only if they all pass. -/
theorem State.endRequest_eq (s : State) :
    s.endRequest = s.setHl { s.hl.ended (admission s s.hl.stored s.hl.count) with
      requests := if admission s s.hl.stored s.hl.count = .accepted
        then s.hl.requests ++ [requestOf s.hl.stored] else s.hl.requests } := by
  unfold State.endRequest
  split
  next accepted => rw [accepted, if_pos rfl]
  next refused => rw [if_neg refused]; rfl

end RequestFrame

/-! ## The power states of admission -/

/-- The power states in which the link refuses a request are those in which it takes none (R167). -/
theorem restoring_or_draining_iff (p : Power) :
    p = .restoring ∨ p = .draining ↔ ¬(p = .run ∨ p = .holdup) := by
  cases p <;> decide

/-- The last check of the admission, asked by the power states that refuse. -/
theorem ite_restoring_or_draining {α : Type} (p : Power) (refused accepted : α) :
    (if p = .restoring ∨ p = .draining then refused else accepted)
      = if p = .run ∨ p = .holdup then accepted else refused := by
  simp only [restoring_or_draining_iff p, ite_not]

/-! ## The statement -/

/-- Settles O15: a byte and a deassertion in REQUEST are the link's to handle, and the two power states in which the last
check refuses are those in which it does not pass. -/
theorem requestFrameChecksInOrder : Obligations.RequestFrameChecksInOrder := by
  unfold Obligations.RequestFrameChecksInOrder
  intro s frame
  refine ⟨fun b aligned => ?_, ?_⟩
  · have goesOn : s.hl.continues .request (.byte b) = true := by simp [Link.continues, frame, aligned]
    rw [exec_requestFrame_of_continues rfl goesOn, State.linkEvent, State.linkByte_of_request frame]
    simp only [State.setHl, Link.counted, Link.shifted, aligned]
    rfl
  · have goesOn : s.hl.continues .request .csnDeasserts = true := by simp [Link.continues, frame]
    rw [exec_requestFrame_of_continues rfl goesOn, State.linkEvent, State.linkDeassert_of_request frame,
      State.endRequest_eq]
    simp only [ite_restoring_or_draining]
    rfl

end Sys2Proof.Machine
end

section
/-! Proofs about the Request Engine: the taking of a request and the order of its checks (R173, R174), the table of the
requests (Tables 9-1 and 10-5), and the payload of each request, field by field (R182). -/

namespace Sys2Proof.Machine

/-! ## The taking of a request -/

theorem exec_requestTake (s : State) : exec .requestTake s = .next s.takeRequest := rfl

/-- While its four conditions hold the Engine takes the head of the queue (R173). -/
theorem State.takeRequest_of_ready {s : State} {r : Request} {rest : List Request} (idle : s.re = none)
    (queued : s.hl.requests = r :: rest) (room : s.hl.responses.length < 4)
    (power : s.ru.power = .run ∨ s.ru.power = .holdup) :
    s.takeRequest = { s with
      hl := { s.hl with requests := rest }, re := some { request := r, phase := validate s.ru.power r } } := by
  have ready : s.mayTakeRequest = true := by
    simp [State.mayTakeRequest, idle, queued, queueDepth, room, power]
  simp only [State.takeRequest, ready, queued, if_true, State.setHl]

/-- While one of its four conditions is false the Engine takes none (R173). -/
theorem State.takeRequest_of_not_ready {s : State}
    (blocked : s.re ≠ none ∨ s.hl.requests = [] ∨ 4 ≤ s.hl.responses.length
      ∨ ¬(s.ru.power = .run ∨ s.ru.power = .holdup)) : s.takeRequest = s := by
  obtain ⟨same, -⟩ | ⟨r, rest, idle, queued, room, power, -⟩ := s.takeRequest_cases
  · exact same
  · obtain serving | empty | full | refused := blocked
    · exact absurd idle serving
    · rw [queued] at empty
      cases empty
    · omega
    · exact absurd power refused

/-! ## The order of the checks -/

section Validate

variable {p : Power} {r : Request} {k : RequestKind} {c : Claim}

theorem validate_of_unknown (unknown : requestKind r.code = none) :
    validate p r = .answered { outcome := .unknownRequest, payload := [] } := by
  simp [validate, unknown]

theorem validate_of_badLength (named : requestKind r.code = some k) (bad : r.payload.length ∉ allowedLengths k) :
    validate p r = .answered { outcome := .badLength, payload := [] } := by
  simp [validate, named, bad]

theorem validate_of_badArgument (named : requestKind r.code = some k) (allowed : r.payload.length ∈ allowedLengths k)
    (bad : claimOf k r.payload = none) : validate p r = .answered { outcome := .badArgument, payload := [] } := by
  simp [validate, named, allowed, bad]

/-- The last check, on a request whose code, length and fields have passed: the power state, which SOFT_RESET leaves to
the Retention Unit (R177). -/
theorem validate_of_claim (named : requestKind r.code = some k) (allowed : r.payload.length ∈ allowedLengths k)
    (valid : claimOf k r.payload = some c) :
    validate p r = if p = .holdup ∧ changesState k = true ∧ k ≠ .softReset
      then .answered { outcome := .powerLow, payload := [] } else firstPhase c := by
  simp [validate, named, allowed, valid]

end Validate

/-! ## The table of the requests -/

/-- The code of a request (Table 10-5). -/
def requestCode : RequestKind → Byte
  | .identify => 0x01#8
  | .readDevice => 0x02#8
  | .softReset => 0x03#8
  | .openAccount => 0x10#8
  | .lookup => 0x11#8
  | .readAccount => 0x12#8
  | .survey => 0x13#8
  | .close => 0x14#8
  | .release => 0x15#8
  | .rewrite => 0x16#8
  | .discard => 0x17#8
  | .topUp => 0x20#8
  | .adjust => 0x21#8
  | .setLimits => 0x22#8
  | .setBand => 0x30#8
  | .setPrice => 0x31#8
  | .setStanding => 0x32#8
  | .readTariff => 0x33#8
  | .commitTariffs => 0x34#8
  | .levy => 0x35#8
  | .cancelLevy => 0x36#8
  | .configureChannel => 0x40#8
  | .readChannel => 0x41#8
  | .billUnbilled => 0x42#8
  | .setHold => 0x50#8
  | .reconnect => 0x51#8
  | .clearFault => 0x52#8
  | .fetchAttention => 0x60#8
  | .ackAttention => 0x61#8
  | .setAttentionMask => 0x62#8

/-- Each request has one code, and no other byte names it. -/
theorem requestKind_eq_some_iff (code : Byte) (k : RequestKind) :
    requestKind code = some k ↔ code = requestCode k := by
  constructor
  · unfold requestKind
    split <;> rintro ⟨⟩ <;> exact BitVec.eq_of_toNat_eq ‹_›
  · rintro rfl
    cases k <;> rfl

/-- A table that has the row of every request, under its code, is the table of the codes. -/
theorem requestKind_eq_find? {α : Type} {rows : List (Byte × RequestKind × α)}
    (sound : ∀ r ∈ rows, r.1 = requestCode r.2.1) (complete : ∀ k, ∃ r ∈ rows, r.1 = requestCode k) (code : Byte) :
    requestKind code = (rows.find? fun r => r.1 == code).map fun r => r.2.1 := by
  cases found : rows.find? fun r => r.1 == code with
  | none =>
    rw [Option.map_none, Option.eq_none_iff_forall_ne_some]
    intro k named
    obtain ⟨r, row, coded⟩ := complete k
    rw [requestKind_eq_some_iff] at named
    exact List.find?_eq_none.mp found r row (by simp [coded, named])
  | some r =>
    have coded : r.1 = code := by simpa using List.find?_some found
    rw [Option.map_some, requestKind_eq_some_iff, ← coded]
    exact sound r (List.mem_of_find?_eq_some found)

/-! ## Single fields -/

/-- A byte that numbers one of n things names the thing of that number. -/
theorem index_eq_some_iff {n : Nat} (b : Byte) (x : Fin n) :
    (if h : b.toNat < n then some (⟨b.toNat, h⟩ : Fin n) else none) = some x ↔ b.toNat = x.val := by
  simp only [Option.dite_none_right_eq_some, Option.some.injEq, Fin.ext_iff]
  exact ⟨fun ⟨_, same⟩ => same, fun same => ⟨by omega, same⟩⟩

theorem channelField_eq_some_iff (b : Byte) (n : Channel) : channelField b = some n ↔ b.toNat = n.val :=
  index_eq_some_iff b n

theorem slotField_eq_some_iff (b : Byte) (i : Slot) : slotField b = some i ↔ b.toNat = i.val :=
  index_eq_some_iff b i

theorem quarterField_eq_some_iff (b : Byte) (x : Fin 4) : quarterField b = some x ↔ b.toNat = x.val :=
  index_eq_some_iff b x

/-- A field with a range is the value sent, if the range holds it. -/
theorem ranged_eq_some_iff {α : Type} {P : α → Prop} [DecidablePred P] (x y : α) :
    (if P x then some x else none) = some y ↔ y = x ∧ P y := by
  rw [Option.ite_none_right_eq_some, Option.some.injEq]
  constructor
  · rintro ⟨inRange, rfl⟩
    exact ⟨rfl, inRange⟩
  · rintro ⟨rfl, inRange⟩
    exact ⟨inRange, rfl⟩

theorem thresholdField_eq_some_iff (x y : BitVec 32) : thresholdField x = some y ↔ y = x ∧ y.toNat ≤ 100000000 :=
  ranged_eq_some_iff (P := fun x : BitVec 32 => x.toNat ≤ 100000000) x y

theorem allowanceField_eq_some_iff (x y : BitVec 32) : allowanceField x = some y ↔ y = x ∧ y.toNat ≤ 10000000 :=
  ranged_eq_some_iff (P := fun x : BitVec 32 => x.toNat ≤ 10000000) x y

theorem openingField_eq_some_iff (x y : BitVec 32) :
    openingField x = some y ↔ y = x ∧ -100000000 ≤ y.toInt ∧ y.toInt ≤ 100000000 :=
  ranged_eq_some_iff (P := fun x : BitVec 32 => -100000000 ≤ x.toInt ∧ x.toInt ≤ 100000000) x y

theorem tariffByteField_eq_some_iff (b t : Byte) : tariffByteField b = some t ↔ t = b ∧ t.toNat ≤ 3 := by
  rw [tariffByteField, ranged_eq_some_iff (P := fun x : Byte => x.toNat < 4), Nat.lt_succ_iff]

theorem yesNoField_eq_some_iff (b : Byte) (x : Bool) : yesNoField b = some x ↔ b.toNat = if x then 1 else 0 := by
  simp only [yesNoField, BitVec.toNat_eq, BitVec.toNat_ofNat]
  cases x <;> grind

theorem targetField_eq_some_iff (b : Byte) (t : Target) :
    targetField b = some t ↔
      t = .waiting ∧ b.toNat = 2 ∨ t = .live ∧ b.toNat = 3 ∨ t = .settled ∧ b.toNat = 4 := by
  simp only [targetField, BitVec.toNat_eq, BitVec.toNat_ofNat]
  cases t <;> grind

/-- A field that chooses between two, numbered 1 and 2: whether it chooses the first. -/
theorem oneOrTwo_iff (b : Byte) (first : Bool) :
    (b = 1#8 ∨ b = 2#8) ∧ (b == 1#8) = first ↔ b.toNat = if first then 1 else 2 := by
  simp only [beq_eq_decide, BitVec.toNat_eq, BitVec.toNat_ofNat]
  cases first <;> grind

/-- A set without the bits from k on is a number below 2^k. -/
theorem and_eq_zero_iff_toNat_lt {w k : Nat} (x : BitVec w) {undefined : BitVec w}
    (mask : undefined = BitVec.allOnes w <<< k) : x &&& undefined = 0#w ↔ x.toNat < 2 ^ k := by
  subst mask
  constructor
  · intro clear
    refine Nat.lt_pow_two_of_testBit _ fun i high => ?_
    by_cases inWord : i < w
    · have bit : x[i] = true → i < k := by
        simpa [inWord] using congrArg (fun y : BitVec w => y.getLsbD i) clear
      have unset : x[i] = false := Bool.eq_false_iff.mpr fun set => (bit set).not_ge high
      exact unset
    · exact x.getLsbD_of_ge i (by omega)
  · intro small
    ext i inWord
    suffices x[i] = true → i < k by simpa
    intro set
    exact (Nat.pow_lt_pow_iff_right (by decide)).mp ((Nat.ge_two_pow_of_testBit set).trans_lt small)

/-- The bytes in which a subject and causes of its kind are sent (R186). -/
def sentAs (x : Subject) (kind number causes : Byte) : Prop :=
  match x with
  | .slot i => kind.toNat = 1 ∧ number.toNat = i.val ∧ causes.toNat < 128
  | .channel n => kind.toNat = 2 ∧ number.toNat = n.val ∧ causes.toNat < 16
  | .device => kind.toNat = 3 ∧ number.toNat = 0 ∧ causes.toNat < 32

theorem subjectField_eq_some_iff (kind number : Byte) (x : Subject) :
    subjectField kind number = some x ↔
      match x with
      | .slot i => kind.toNat = 1 ∧ number.toNat = i.val
      | .channel n => kind.toNat = 2 ∧ number.toNat = n.val
      | .device => kind.toNat = 3 ∧ number.toNat = 0 := by
  simp only [subjectField, BitVec.toNat_eq, BitVec.toNat_ofNat]
  split_ifs with slot channel device
  · cases x <;> simp [slot, slotField_eq_some_iff]
  · cases x <;> simp [channel, channelField_eq_some_iff]
  · cases x <;> simp_all
  · cases x <;> simp_all

theorem causesField_eq_some_iff (x : Subject) (set causes : Byte) :
    causesField x set = some causes ↔ causes = set ∧ causes &&& undefinedCauses x = 0#8 :=
  ranged_eq_some_iff (P := fun set : Byte => set &&& undefinedCauses x = 0#8) set causes

theorem fields_iff_sentAs (x : Subject) (kind number causes : Byte) :
    subjectField kind number = some x ∧ causes &&& undefinedCauses x = 0#8 ↔ sentAs x kind number causes := by
  rw [subjectField_eq_some_iff]
  cases x with
  | slot i => rw [undefinedCauses, and_eq_zero_iff_toNat_lt (k := 7) causes (by decide), and_assoc]; rfl
  | channel n => rw [undefinedCauses, and_eq_zero_iff_toNat_lt (k := 4) causes (by decide), and_assoc]; rfl
  | device => rw [undefinedCauses, and_eq_zero_iff_toNat_lt (k := 5) causes (by decide), and_assoc]; rfl

theorem inRange_iff (f : ChannelConfig) :
    f.inRange = true ↔
      1 ≤ f.divisor ∧ f.divisor ≤ 4096 ∧ 1 ≤ f.window ∧ f.window ≤ 3600 ∧ 20 ≤ f.timeout ∧ f.timeout ≤ 2000 := by
  simp [ChannelConfig.inRange, and_assoc]

/-! ## Whole payloads -/

section Payloads

variable {p : List Byte} {c : Claim}

/-- A request of one field is the claim of that field's value. -/
theorem bind_eq_some_iff_of_field {α : Type} {field : Option α} {claim : α → Claim} :
    (do some (claim (← field))) = some c ↔ ∃ x, c = claim x ∧ field = some x := by
  simp only [Option.bind_eq_bind, Option.bind_eq_some_iff, Option.some.injEq]
  exact exists_congr fun x => by rw [and_comm, eq_comm]

theorem claimOf_openAccount_eq_some_iff :
    claimOf .openAccount p = some c ↔ ∃ a : OpenArgs, c = .openAccount a
      ∧ (byteAt p 0).toNat = a.channel.val ∧ a.reference = referenceAt p 1
      ∧ a.tariff = byteAt p 9 ∧ (byteAt p 9).toNat ≤ 3
      ∧ a.threshold = field32 p 10 ∧ a.threshold.toNat ≤ 100000000
      ∧ a.allowance = field32 p 14 ∧ a.allowance.toNat ≤ 10000000
      ∧ a.opening = field32 p 18 ∧ -100000000 ≤ a.opening.toInt ∧ a.opening.toInt ≤ 100000000 := by
  delta claimOf
  simp only [Option.bind_eq_bind, Option.bind_eq_some_iff, channelField_eq_some_iff,
    tariffByteField_eq_some_iff, thresholdField_eq_some_iff, allowanceField_eq_some_iff, openingField_eq_some_iff,
    Option.some.injEq]
  constructor
  · rintro ⟨channel, isChannel, _, ⟨rfl, tariff⟩, _, ⟨rfl, threshold⟩, _, ⟨rfl, allowance⟩, _, ⟨rfl, opening⟩, rfl⟩
    exact ⟨_, rfl, isChannel, rfl, rfl, tariff, rfl, threshold, rfl, allowance, rfl, opening⟩
  · rintro ⟨a, rfl, channel, reference, isTariff, tariff, isThreshold, threshold, isAllowance,
      allowance, isOpening, opening⟩
    exact ⟨_, channel, _, ⟨isTariff, by rwa [isTariff]⟩, _, ⟨isThreshold, threshold⟩, _, ⟨isAllowance, allowance⟩,
      _, ⟨isOpening, opening⟩, by rw [← reference]⟩

theorem claimOf_rewrite_eq_some_iff :
    claimOf .rewrite p = some c ↔ ∃ a : RewriteArgs, c = .rewrite a
      ∧ a.handle = field16 p 0
      ∧ (a.target = .waiting ∧ (byteAt p 2).toNat = 2 ∨ a.target = .live ∧ (byteAt p 2).toNat = 3
          ∨ a.target = .settled ∧ (byteAt p 2).toNat = 4)
      ∧ (byteAt p 3).toNat = a.channel.val ∧ a.reference = referenceAt p 4
      ∧ a.tariff = byteAt p 12 ∧ (byteAt p 12).toNat ≤ 3
      ∧ a.threshold = field32 p 13 ∧ a.threshold.toNat ≤ 100000000
      ∧ a.allowance = field32 p 17 ∧ a.allowance.toNat ≤ 10000000 ∧ a.expected = expectedField p 21 := by
  delta claimOf
  simp only [Option.bind_eq_bind, Option.bind_eq_some_iff, targetField_eq_some_iff,
    channelField_eq_some_iff, tariffByteField_eq_some_iff, thresholdField_eq_some_iff, allowanceField_eq_some_iff,
    Option.some.injEq]
  constructor
  · rintro ⟨target, isTarget, channel, isChannel, _, ⟨rfl, tariff⟩, _, ⟨rfl, threshold⟩, _, ⟨rfl, allowance⟩, rfl⟩
    exact ⟨_, rfl, rfl, isTarget, isChannel, rfl, rfl, tariff, rfl, threshold, rfl, allowance, rfl⟩
  · rintro ⟨a, rfl, handle, target, channel, reference, isTariff, tariff, isThreshold, threshold, isAllowance,
      allowance, expected⟩
    exact ⟨_, target, _, channel, _, ⟨isTariff, by rwa [isTariff]⟩, _, ⟨isThreshold, threshold⟩, _,
      ⟨isAllowance, allowance⟩, by rw [← handle, ← reference, ← expected]⟩

theorem claimOf_topUp_eq_some_iff :
    claimOf .topUp p = some c ↔ ∃ a : TopUpArgs, c = .topUp a
      ∧ a.handle = field16 p 0 ∧ a.voucher = field32 p 2 ∧ a.voucher ≠ 0#32
      ∧ a.amount = field32 p 6 ∧ 1 ≤ a.amount.toNat ∧ a.amount.toNat ≤ 100000000
      ∧ a.expected = expectedField p 10 := by
  delta claimOf
  simp only [Option.ite_none_right_eq_some, Option.some.injEq]
  constructor
  · rintro ⟨⟨voucher, low, high⟩, rfl⟩
    exact ⟨_, rfl, rfl, rfl, voucher, rfl, low, high, rfl⟩
  · rintro ⟨a, rfl, handle, isVoucher, voucher, isAmount, low, high, expected⟩
    rw [← handle, ← isVoucher, ← isAmount, ← expected]
    exact ⟨⟨voucher, low, high⟩, rfl⟩

theorem claimOf_adjust_eq_some_iff :
    claimOf .adjust p = some c ↔ ∃ a : AdjustArgs, c = .adjust a
      ∧ a.handle = field16 p 0 ∧ a.expected = field16 p 2
      ∧ a.amount = field32 p 4 ∧ a.amount ≠ 0#32 ∧ -100000000 ≤ a.amount.toInt
      ∧ a.amount.toInt ≤ 100000000 := by
  delta claimOf
  simp only [Option.ite_none_right_eq_some, Option.some.injEq]
  constructor
  · rintro ⟨⟨amount, low, high⟩, rfl⟩
    exact ⟨_, rfl, rfl, rfl, rfl, amount, low, high⟩
  · rintro ⟨a, rfl, handle, expected, isAmount, amount, low, high⟩
    rw [← handle, ← expected, ← isAmount]
    exact ⟨⟨amount, low, high⟩, rfl⟩

theorem claimOf_setLimits_eq_some_iff :
    claimOf .setLimits p = some c ↔ ∃ a : LimitsArgs, c = .setLimits a
      ∧ a.handle = field16 p 0 ∧ a.tariff = byteAt p 2 ∧ (byteAt p 2).toNat ≤ 3
      ∧ a.threshold = field32 p 3 ∧ a.threshold.toNat ≤ 100000000
      ∧ a.allowance = field32 p 7 ∧ a.allowance.toNat ≤ 10000000 ∧ a.expected = expectedField p 11 := by
  delta claimOf
  simp only [Option.bind_eq_bind, Option.bind_eq_some_iff, tariffByteField_eq_some_iff,
    thresholdField_eq_some_iff, allowanceField_eq_some_iff, Option.some.injEq]
  constructor
  · rintro ⟨_, ⟨rfl, tariff⟩, _, ⟨rfl, threshold⟩, _, ⟨rfl, allowance⟩, rfl⟩
    exact ⟨_, rfl, rfl, rfl, tariff, rfl, threshold, rfl, allowance, rfl⟩
  · rintro ⟨a, rfl, handle, isTariff, tariff, isThreshold, threshold, isAllowance, allowance, expected⟩
    exact ⟨_, ⟨isTariff, by rwa [isTariff]⟩, _, ⟨isThreshold, threshold⟩, _, ⟨isAllowance, allowance⟩,
      by rw [← handle, ← expected]⟩

theorem claimOf_survey_eq_some_iff :
    claimOf .survey p = some c ↔ ∃ i : Slot, c = .survey i ∧ (byteAt p 0).toNat = i.val := by
  delta claimOf
  simp only [bind_eq_some_iff_of_field, slotField_eq_some_iff]

theorem claimOf_setBand_eq_some_iff :
    claimOf .setBand p = some c ↔ ∃ band : Band, c = .setBand band ∧ (byteAt p 0).toNat = band.val := by
  delta claimOf
  simp only [bind_eq_some_iff_of_field, quarterField_eq_some_iff]

theorem claimOf_readChannel_eq_some_iff :
    claimOf .readChannel p = some c ↔ ∃ n : Channel, c = .readChannel n ∧ (byteAt p 0).toNat = n.val := by
  delta claimOf
  simp only [bind_eq_some_iff_of_field, channelField_eq_some_iff]

theorem claimOf_billUnbilled_eq_some_iff :
    claimOf .billUnbilled p = some c ↔
      ∃ n : Channel, c = .billUnbilled n (field16 p 1) ∧ (byteAt p 0).toNat = n.val := by
  delta claimOf
  simp only [bind_eq_some_iff_of_field (claim := fun n => .billUnbilled n _), channelField_eq_some_iff]

theorem claimOf_reconnect_eq_some_iff :
    claimOf .reconnect p = some c ↔ ∃ n : Channel, c = .reconnect n ∧ (byteAt p 0).toNat = n.val := by
  delta claimOf
  simp only [bind_eq_some_iff_of_field, channelField_eq_some_iff]

theorem claimOf_clearFault_eq_some_iff :
    claimOf .clearFault p = some c ↔ ∃ n : Channel, c = .clearFault n ∧ (byteAt p 0).toNat = n.val := by
  delta claimOf
  simp only [bind_eq_some_iff_of_field, channelField_eq_some_iff]

theorem claimOf_setPrice_eq_some_iff :
    claimOf .setPrice p = some c ↔ ∃ (tariff : Tariff) (band : Band), c = .setPrice tariff band (field16 p 2)
      ∧ (byteAt p 0).toNat = tariff.val ∧ (byteAt p 1).toNat = band.val := by
  delta claimOf
  simp only [Option.bind_eq_bind, Option.bind_eq_some_iff, quarterField_eq_some_iff, Option.some.injEq]
  constructor
  · rintro ⟨tariff, isTariff, band, isBand, rfl⟩
    exact ⟨tariff, band, rfl, isTariff, isBand⟩
  · rintro ⟨tariff, band, rfl, isTariff, isBand⟩
    exact ⟨tariff, isTariff, band, isBand, rfl⟩

theorem claimOf_setStanding_eq_some_iff :
    claimOf .setStanding p = some c ↔ ∃ tariff : Tariff, c = .setStanding tariff (field32 p 1)
      ∧ (byteAt p 0).toNat = tariff.val ∧ (field32 p 1).toNat ≤ 1000000 := by
  delta claimOf
  simp only [Option.bind_eq_bind, Option.bind_eq_some_iff, quarterField_eq_some_iff,
    Option.ite_none_right_eq_some, Option.some.injEq]
  constructor
  · rintro ⟨tariff, isTariff, charge, rfl⟩
    exact ⟨tariff, rfl, isTariff, charge⟩
  · rintro ⟨tariff, rfl, isTariff, charge⟩
    exact ⟨tariff, isTariff, charge, rfl⟩

theorem claimOf_readTariff_eq_some_iff :
    claimOf .readTariff p = some c ↔ ∃ (active : Bool) (tariff : Tariff), c = .readTariff active tariff
      ∧ (byteAt p 0).toNat = (if active then 1 else 2) ∧ (byteAt p 1).toNat = tariff.val := by
  delta claimOf
  simp only [Option.ite_none_right_eq_some, bind_eq_some_iff_of_field, quarterField_eq_some_iff,
    ← oneOrTwo_iff]
  constructor
  · rintro ⟨bank, tariff, rfl, isTariff⟩
    exact ⟨_, tariff, rfl, ⟨bank, rfl⟩, isTariff⟩
  · rintro ⟨_, tariff, rfl, ⟨bank, rfl⟩, isTariff⟩
    exact ⟨bank, tariff, rfl, isTariff⟩

theorem claimOf_setHold_eq_some_iff :
    claimOf .setHold p = some c ↔ ∃ set : Bool, c = .setHold (byteAt p 0) set
      ∧ (byteAt p 1).toNat = (if set then 1 else 2) := by
  delta claimOf
  simp only [Option.ite_none_right_eq_some, Option.some.injEq, ← oneOrTwo_iff]
  constructor
  · rintro ⟨action, rfl⟩
    exact ⟨_, rfl, action, rfl⟩
  · rintro ⟨_, rfl, action, rfl⟩
    exact ⟨action, rfl⟩

theorem claimOf_levy_eq_some_iff :
    claimOf .levy p = some c ↔ c = .levy (field16 p 0) ∧ field16 p 0 ≠ 0#16 := by
  delta claimOf
  simp only [Option.ite_none_left_eq_some, Option.some.injEq]
  rw [and_comm, eq_comm]

theorem claimOf_configureChannel_eq_some_iff :
    claimOf .configureChannel p = some c ↔ ∃ (n : Channel) (f : ChannelConfig), c = .configureChannel n f
      ∧ (byteAt p 0).toNat = n.val
      ∧ f.divisor = fieldAt p 1 2 ∧ 1 ≤ f.divisor ∧ f.divisor ≤ 4096
      ∧ f.window = fieldAt p 3 2 ∧ 1 ≤ f.window ∧ f.window ≤ 3600
      ∧ f.timeout = fieldAt p 5 2 ∧ 20 ≤ f.timeout ∧ f.timeout ≤ 2000
      ∧ (byteAt p 7).toNat = (if f.reconnect then 1 else 0) ∧ (byteAt p 8).toNat = (if f.reclose then 1 else 0) := by
  delta claimOf
  simp only [Option.bind_eq_bind, Option.bind_eq_some_iff, channelField_eq_some_iff,
    yesNoField_eq_some_iff, Option.ite_none_right_eq_some, inRange_iff, Option.some.injEq]
  constructor
  · rintro ⟨n, channel, reconnect, isReconnect, reclose, isReclose,
      ⟨divisorLow, divisorHigh, windowLow, windowHigh, timeoutLow, timeoutHigh⟩, rfl⟩
    exact ⟨n, _, rfl, channel, rfl, divisorLow, divisorHigh, rfl, windowLow, windowHigh, rfl, timeoutLow,
      timeoutHigh, isReconnect, isReclose⟩
  · rintro ⟨n, f, rfl, channel, divisor, divisorLow, divisorHigh, window, windowLow, windowHigh, timeout, timeoutLow,
      timeoutHigh, reconnect, reclose⟩
    rw [← divisor, ← window, ← timeout]
    exact ⟨n, channel, _, reconnect, _, reclose,
      ⟨divisorLow, divisorHigh, windowLow, windowHigh, timeoutLow, timeoutHigh⟩, rfl⟩

theorem claimOf_ackAttention_eq_some_iff :
    claimOf .ackAttention p = some c ↔ ∃ x : Subject, c = .ackAttention x (byteAt p 2)
      ∧ sentAs x (byteAt p 0) (byteAt p 1) (byteAt p 2) := by
  delta claimOf
  simp only [Option.bind_eq_bind, Option.bind_eq_some_iff, causesField_eq_some_iff, ← fields_iff_sentAs,
    Option.some.injEq]
  constructor
  · rintro ⟨x, subject, _, ⟨rfl, causes⟩, rfl⟩
    exact ⟨x, rfl, subject, causes⟩
  · rintro ⟨x, rfl, subject, causes⟩
    exact ⟨x, subject, _, ⟨rfl, causes⟩, rfl⟩

theorem claimOf_setAttentionMask_eq_some_iff :
    claimOf .setAttentionMask p = some c ↔
      c = .setAttentionMask { slot := byteAt p 0, channel := byteAt p 1, device := byteAt p 2 }
        ∧ (byteAt p 0).toNat < 128 ∧ (byteAt p 1).toNat < 16 ∧ (byteAt p 2).toNat < 32 := by
  have slot := and_eq_zero_iff_toNat_lt (k := 7) (byteAt p 0) (undefined := 0x80#8) (by decide)
  have channel := and_eq_zero_iff_toNat_lt (k := 4) (byteAt p 1) (undefined := 0xF0#8) (by decide)
  have device := and_eq_zero_iff_toNat_lt (k := 5) (byteAt p 2) (undefined := 0xE0#8) (by decide)
  delta claimOf
  simp only [Option.ite_none_right_eq_some, Option.some.injEq, slot, channel, device]
  rw [and_comm, eq_comm]
  rfl

end Payloads

/-! ## The statement -/

/-- Settles O19: the taking of a request is its conditions and its validation, the table of the codes is complete, and
each payload is read field by field. -/
theorem requestTakenAndValidated : Obligations.RequestTakenAndValidated := by
  unfold Obligations.RequestTakenAndValidated
  refine ⟨?taken, ?blocked, ?table, ?payloads⟩
  case taken =>
    intro s r rest idle queued room power
    refine ⟨{ request := r, phase := validate s.ru.power r },
      by rw [exec_requestTake, State.takeRequest_of_ready idle queued room power], rfl, validate_of_unknown, ?_⟩
    intro k named
    refine ⟨validate_of_badLength named, validate_of_badArgument named, ?_⟩
    intro c allowed valid
    dsimp only
    rw [validate_of_claim named allowed valid]
    refine ⟨fun low changes other => if_pos ⟨low, changes, other⟩, ?_⟩
    refine fun passes => if_neg ?_
    rintro ⟨low, changes, other⟩
    obtain run | reads | softReset := passes
    · rw [run] at low
      cases low
    · rw [reads] at changes
      cases changes
    · exact other softReset
  case blocked =>
    intro s blocked
    rw [restoring_or_draining_iff] at blocked
    rw [exec_requestTake, State.takeRequest_of_not_ready blocked]
  case table =>
    dsimp only
    refine ⟨requestKind_eq_find? (by decide) fun k => ?_, by decide⟩
    cases k <;> decide
  case payloads =>
    intro p c
    dsimp only
    exact ⟨⟨rfl, rfl, rfl, rfl, rfl, rfl, rfl, rfl, rfl, rfl, rfl⟩, claimOf_openAccount_eq_some_iff,
      claimOf_survey_eq_some_iff, claimOf_rewrite_eq_some_iff, claimOf_topUp_eq_some_iff, claimOf_adjust_eq_some_iff,
      claimOf_setLimits_eq_some_iff, claimOf_setBand_eq_some_iff, claimOf_setPrice_eq_some_iff,
      claimOf_setStanding_eq_some_iff, claimOf_readTariff_eq_some_iff, claimOf_levy_eq_some_iff,
      claimOf_configureChannel_eq_some_iff, claimOf_readChannel_eq_some_iff, claimOf_billUnbilled_eq_some_iff,
      claimOf_setHold_eq_some_iff, claimOf_reconnect_eq_some_iff, claimOf_clearFault_eq_some_iff,
      claimOf_ackAttention_eq_some_iff, claimOf_setAttentionMask_eq_some_iff⟩

end Sys2Proof.Machine
end

section
/-! Proofs about every step: the changes that a command can make, one kind for each block, and that each command is a
chain of them.  A law of the blocks is then kept by every step if each kind of change keeps it. -/

set_option Elab.async false

namespace Sys2Proof.Machine

/-! ## The kinds of change -/

/-- What a command may do beyond the upkeep that any claim does: change a record for the host, open an account, free a
slot, load a record from the array, and begin a closing at a controller that was OPEN or ARMED. -/
structure Scope where
  host : Prop
  opens : OpenArgs → Prop
  frees : Slot → Prop
  loads : Prop
  starts : Channel → Prop

/-- The changes of a record's body that end in an evaluation (R47, R51): a charge, an engagement, a TOP_UP, an ADJUST
and a SET_LIMITS. -/
inductive BodyChange (k : Scope) (b : Body) : Body → Prop
  | charged (levy : BitVec 16) (amount quanta : Nat) :
      BodyChange k b (Body.charged { b with lastLevy := levy } amount quanta)
  | engaged (e : Emergency) : BodyChange k b { b with emergency := emergencyCode e }
  | toppedUp (voucher amount : BitVec 32) : k.host → b.topUpFits amount = true →
      BodyChange k b (b.toppedUp voucher amount)
  | adjusted (amount : BitVec 32) : k.host → b.adjustFits amount = true → BodyChange k b (b.adjusted amount)
  | limited (a : LimitsArgs) : k.host → BodyChange k b (b.limited a)

/-- The record of a slot in the FREE form, before its word is computed (R5). -/
def freeRecord (counter : Generation) : SlotState :=
  { life := .free, generation := 0, counter := counter, body := .absent, word := 0 }

/-- The record of a slot in the LOST form, before its word is computed (R5). -/
def lostRecord (generation counter : Generation) : SlotState :=
  { life := .lost, generation := generation, counter := counter, body := .absent, word := 0 }

/-- The changes of a slot, each before the word is computed. -/
inductive RecordChange (k : Scope) (i : Slot) (x : SlotState) : SlotState → Prop
  | quarantined (held : Held) :
      hasReference x.life = true → RecordChange k i x { x with life := .quarantined held }
  | renewed : RecordChange k i x x
  | lost (g : Generation) : x.life = .lost → RecordChange k i x (lostRecord g x.counter)
  | free : x.life = .free → RecordChange k i x (freeRecord x.counter)
  | conflict (closing : Option CloseInfo) :
      RecordChange k i x
        { x with life := .quarantined .settled, body := { x.body with credit := 0#8, closing := closing } }
  | promoted : x.life = .waiting → RecordChange k i x { x with life := .live, body := x.body.promoted }
  | concluded (b : Body) (rising : Bool) : BodyChange k x.body b →
      RecordChange k i x
        { x with body := if x.life = .live then b.evaluated rising else b.stepped rising }
  | opened (a : OpenArgs) (serial : BitVec 32) (g : Generation) (credit : Byte) (life : Life) :
      k.opens a → x.life = .free →
      RecordChange k i x
        { life := life, generation := g, counter := g, body := { openBody a serial with credit := credit }, word := 0 }
  | closed : k.host → hasReference x.life = true → isQuarantined x.life = false →
      RecordChange k i x { x with life := .settled, body := x.body.closed }
  | rewritten (a : RewriteArgs) (result : Life) : k.host → x.body.reconcilable = true →
      RecordChange k i x
        { x with
          life := result
          body :=
            if result = .live then (rewrittenBody x.body a x.life result).evaluated false
            else rewrittenBody x.body a x.life result }
  | freed : k.frees i → RecordChange k i x (freeRecord x.counter)
  | loaded (y : SlotState) : k.loads → RecordChange k i x y

/-- The changes of a Supply Controller's state, drive line and timer (R102, R106 to R110, R122). -/
inductive SupplyChange (starts : Prop) (c d : Supply) : Prop
  | kept : d.state = c.state → d.drive = c.drive → d.timer = c.timer → SupplyChange starts c d
  | opening : c.state = .closed ∨ c.state = .adopting →
      d.state = .opening → d.drive = false → d.timer.isSome = true → SupplyChange starts c d
  | closing : c.state = .adopting ∨ starts →
      d.state = .closing → d.drive = true → d.timer.isSome = true → SupplyChange starts c d
  | fault (kind : FaultKind) : d.state = .fault kind → d.drive = false → d.timer = none → SupplyChange starts c d
  | confirmedOpen : c.state = .opening → d.state = .opened → d.drive = c.drive → d.timer = none →
      SupplyChange starts c d
  | confirmedClosed : c.state = .closing → d.state = .closed → d.drive = c.drive → d.timer = none →
      SupplyChange starts c d
  | opened : c.state = .armed ∨ isFault c.state = true ∨ (c.state = .adopting ∧ c.drive = false) →
      d.state = .opened → d.drive = c.drive → d.timer = c.timer → SupplyChange starts c d
  | armed : c.state = .opened → d.state = .armed → d.drive = c.drive → d.timer = c.timer → SupplyChange starts c d
  | closed : c.state = .adopting → c.drive = true →
      d.state = .closed → d.drive = c.drive → d.timer = c.timer → SupplyChange starts c d

/-- The changes of the Attention Unit: of all but the list and ATTN, a raise, a removal and an acknowledgement taken. -/
inductive AttentionChange (a : Attention) : Attention → Prop
  | mail (mask : CauseMask) (inbox : List AttentionMessage) :
      AttentionChange a { a with mask := mask, inbox := inbox }
  | raise (r : Raise) : AttentionChange a (a.takeRaise r)
  | removal (i : Slot) : AttentionChange a (a.takeRemoval i)
  | acknowledged (x : Subject) (causes : BitVec 8) :
      AttentionChange a (a.setList (acknowledge x causes a.list))

/-- The changes of the Retention Unit: of all but the commit queue and the bars, a dirtying taken, the head of the queue
taken, a bar and its lift. -/
inductive RetentionChange (r : Retention) : Retention → Prop
  | other (q : Retention) : q.queue = r.queue → q.barred = r.barred → RetentionChange r q
  | dirtied (x : Item) : RetentionChange r (r.takeDirtying x)
  | taken : RetentionChange r r.commitTake
  | barred (i : Slot) : RetentionChange r (r.bar i)
  | lifted (i : Slot) : RetentionChange r (r.liftBar i)

/-- The changes of the link: of all but the queues, a request admitted, and a response fetched. -/
inductive LinkChange (l : Link) : Link → Prop
  | frame (m : Link) : m.requests = l.requests → m.responses = l.responses → LinkChange l m
  | admitted (r : Request) : l.requests.length < queueDepth → LinkChange l { l with requests := l.requests ++ [r] }
  | fetched : LinkChange l { l with responses := l.responses.tail }

/-- One change of the part, of one block. -/
inductive Move (k : Scope) (s : State) : State → Prop
  | record (i : Slot) (x : SlotState) : RecordChange k i (s.slotAt i) x → Move k s (s.putRecord i x)
  | store (st : Store) :
      (∀ i : Slot, st.slots[i].life = (s.slotAt i).life ∧ st.slots[i].generation = (s.slotAt i).generation
        ∧ st.slots[i].body = (s.slotAt i).body ∧ st.slots[i].word = (s.slotAt i).word) →
      Move k s { s with store := st }
  | tariffs (u : TariffUnit) : Move k s { s with tu := u }
  | levy (e : LevyEngine) : Move k s { s with le := e }
  | quantizers (q : Vector Quantizer 8) : Move k s { s with cq := q }
  | supplies (cs : Vector Supply 8) : (∀ n : Channel, SupplyChange (k.starts n) (s.scAt n) cs[n]) →
      Move k s { s with sc := cs }
  | attention (a : Attention) : AttentionChange s.au a → Move k s { s with au := a }
  | retention (r : Retention) : RetentionChange s.ru r → Move k s { s with ru := r }
  | link (l : Link) : LinkChange s.hl l → Move k s { s with hl := l }
  | phase (p : Phase) : Move k s (s.setPhase p)
  | requestTaken : Move k s s.takeRequest
  | responseQueued (r : Response) : s.re.isSome = true →
      Move k s { s with hl := { s.hl with responses := s.hl.responses ++ [r] }, re := none }
  | requestDropped : Move k s { s with re := none }
  | inputs (p : Pins) : Move k s { s with pins := p }

/-- A chain of changes. -/
def Moves (k : Scope) : State → State → Prop := Relation.ReflTransGen (Move k)

namespace Moves

variable {k : Scope} {s u v : State}

theorem refl (s : State) : Moves k s s := Relation.ReflTransGen.refl

theorem step (m : Moves k s u) (h : Move k u v) : Moves k s v := Relation.ReflTransGen.tail m h

theorem trans (m : Moves k s u) (h : Moves k u v) : Moves k s v := Relation.ReflTransGen.trans m h

/-- What each change keeps, a chain keeps. -/
theorem keeps {P : State → Prop} (each : ∀ u v, Move k u v → P u → P v) (m : Moves k s u) : P s → P u := by
  intro start
  induction m with
  | refl => exact start
  | tail _ last ih => exact each _ _ last ih

/-- A chain goes on through a fold whose every step is a chain. -/
theorem foldl {α : Type} {f : State → α → State} (each : ∀ {v : State} (a : α), Moves k s v → Moves k s (f v a))
    (m : Moves k s u) (l : List α) : Moves k s (l.foldl f u) := by
  induction l generalizing u with
  | nil => exact m
  | cons a rest ih =>
    rw [List.foldl_cons]
    exact ih (each a m)

/-! ## The Account Store -/

theorem record (m : Moves k s u) (i : Slot) (x : SlotState) (h : RecordChange k i (u.slotAt i) x) :
    Moves k s (u.putRecord i x) := m.step (.record i x h)

/-- The Store's lists and counters are its own. -/
theorem lists (m : Moves k s u) (st : Store) (h : st.slots = u.store.slots) : Moves k s { u with store := st } := by
  refine m.step (.store st fun i => ?_)
  rw [h]
  exact ⟨rfl, rfl, rfl, rfl⟩

theorem setList (m : Moves k s u) (n : Channel) (hs : List Handle) : Moves k s (u.setList n hs) := m.lists _ rfl

/-! ## Hand-offs -/

theorem mail (m : Moves k s u) (inbox : List AttentionMessage) :
    Moves k s (u.setAu { u.au with inbox := inbox }) := m.step (.attention _ (.mail u.au.mask inbox))

theorem raise (m : Moves k s u) (b : Block) (r : Raise) : Moves k s (u.raise b r) := m.mail _

theorem raiseSlot (m : Moves k s u) (i : Slot) (c : SlotCause) : Moves k s (u.raiseSlot i c) := m.mail _

theorem removeEntry (m : Moves k s u) (i : Slot) : Moves k s (u.removeEntry i) := m.mail _

theorem raiseEntered (m : Moves k s u) (i : Slot) (a b : Byte) : Moves k s (u.raiseEntered i a b) := by
  rw [State.raiseEntered_eq]
  exact m.mail _

theorem setRu (m : Moves k s u) (r : Retention) (queue : r.queue = u.ru.queue) (barred : r.barred = u.ru.barred) :
    Moves k s (u.setRu r) := m.step (.retention r (.other r queue barred))

theorem dirty (m : Moves k s u) (b : Block) (x : Item) : Moves k s (u.dirty b x) := m.setRu _ rfl rfl

theorem dirtyAccount (m : Moves k s u) (i : Slot) : Moves k s (u.dirtyAccount i) := m.dirty _ _

theorem tallied (m : Moves k s u) (f : RestoreSummary) : Moves k s (u.tallied f) := m.setRu _ rfl rfl

theorem setStage (m : Moves k s u) (g : RestoreStage) : Moves k s (u.setStage g) := m.setRu _ rfl rfl

theorem bar (m : Moves k s u) (i : Slot) : Moves k s (u.setRu (u.ru.bar i)) := m.step (.retention _ (.barred i))

theorem liftBar (m : Moves k s u) (i : Slot) : Moves k s (u.setRu (u.ru.liftBar i)) :=
  m.step (.retention _ (.lifted i))

theorem retention (m : Moves k s u) {r : Retention} (h : RetentionChange u.ru r) : Moves k s (u.setRu r) :=
  m.step (.retention r h)

theorem phase (m : Moves k s u) (p : Phase) : Moves k s (u.setPhase p) := m.step (.phase p)

theorem answer (m : Moves k s u) (o : OutcomeCode) (p : List Byte) : Moves k s (u.answer o p) := m.phase _

theorem setSc (m : Moves k s u) (n : Channel) (d : Supply) (h : SupplyChange (k.starts n) (u.scAt n) d) :
    Moves k s (u.setSc n d) := by
  refine m.step (.supplies _ fun j => ?_)
  by_cases same : n = j
  · subst same
    simpa using h
  · have other : (n : Nat) ≠ j := fun e => same (Fin.ext e)
    rw [Fin.getElem_fin, Vector.getElem_set_ne _ _ other]
    exact .kept rfl rfl rfl

theorem setCq (m : Moves k s u) (n : Channel) (q : Quantizer) : Moves k s (u.setCq n q) := m.step (.quantizers _)

theorem setTu (m : Moves k s u) (t : TariffUnit) : Moves k s (u.setTu t) := m.step (.tariffs t)

theorem setLe (m : Moves k s u) (e : LevyEngine) : Moves k s (u.setLe e) := m.step (.levy e)

theorem setHl (m : Moves k s u) (l : Link) (h : LinkChange u.hl l) : Moves k s (u.setHl l) := m.step (.link l h)

theorem notify (m : Moves k s u) (n : Channel) : Moves k s (u.notify n) := m.setSc n _ (.kept rfl rfl rfl)

theorem notifyFrom (m : Moves k s u) (s0 : State) (l : List Channel) : Moves k s (State.notifyFrom s0 l u) := by
  induction l generalizing u with
  | nil => exact m
  | cons n rest ih =>
    rw [State.notifyFrom]
    split
    · exact ih m
    · exact ih (m.notify n)

theorem sendNotices (m : Moves k s u) (s0 : State) : Moves k s (u.sendNotices s0) := m.notifyFrom s0 channels

theorem finishClaim {s0 : State} {t : Taken} (m : Moves k s t.state) : Moves k s (s0.finishClaim t) :=
  (m.sendNotices s0).answer _ _

/-! ## Integrity and promotion -/

theorem quarantine (m : Moves k s u) (i : Slot) (held : Held) (h : hasReference (u.lifeAt i) = true) :
    Moves k s (u.quarantine i held) :=
  ((m.record i _ (.quarantined held h)).raiseSlot i _).bar i

theorem check (m : Moves k s u) (i : Slot) : Moves k s (u.check i) := by
  rcases u.check_cases i with ⟨-, same⟩ | ⟨-, ⟨held, life, same⟩ | ⟨held, life, same⟩ | ⟨life, same⟩ | ⟨life, same⟩⟩
  · rwa [same]
  · rw [same]
    exact m.quarantine i held (by rw [life]; cases held <;> rfl)
  · rw [same]
    exact (m.record i _ .renewed).raiseSlot i _
  · rw [same]
    exact m.record i _ (.lost _ life)
  · rw [same]
    exact m.record i _ (.free life)

theorem checkCompared (m : Moves k s u) (l : List Slot) : Moves k s (u.checkCompared l) := by
  induction l generalizing u with
  | nil => exact m
  | cons i rest ih =>
    rw [State.checkCompared]
    split
    · exact ih (m.check i)
    · exact ih m

theorem makeOccupant (m : Moves k s u) (i : Slot) (h : u.lifeAt i = .waiting) : Moves k s (u.makeOccupant i) :=
  (((m.record i _ (.promoted h)).raiseEntered i _ _).raiseSlot i _).dirtyAccount i

theorem promoteFrom (m : Moves k s u) (n : Channel) (l : List Handle) : Moves k s (u.promoteFrom n l).1 := by
  induction l generalizing u with
  | nil => exact m
  | cons h rest ih =>
    simp only [State.promoteFrom]
    have checked := m.check (slotOf h)
    split
    case _ waiting =>
      refine (checked.setList n _).makeOccupant (slotOf h) ?_
      rw [State.lifeAt, State.setList_slotAt]
      exact waiting
    all_goals exact ih checked

theorem leaveList (m : Moves k s u) (s0 : State) (i : Slot) : Moves k s (u.leaveList s0 i).1 := by
  rcases u.leaveList_cases s0 i with ⟨-, same⟩ | ⟨n, -, same⟩
  · rwa [same]
  · rw [same]
    dsimp only
    split
    · exact (m.setList n _).promoteFrom n _
    · exact m.setList n _

/-! ## The end of a charge, credit or change of limits -/

theorem conclude (m : Moves k s u) (i : Slot) (b : Body) (rising : Bool) (h : BodyChange k (u.bodyAt i) b) :
    Moves k s (u.conclude i b rising) := by
  have written := m.record i _ (RecordChange.concluded b rising h)
  unfold State.conclude
  split
  case _ live =>
    rw [State.lifeAt] at live
    rw [if_pos live] at written
    exact (written.raiseEntered i _ _).dirtyAccount i
  all_goals
    rename_i other
    rw [State.lifeAt] at other
    rw [if_neg (by simp [other])] at written
    exact written.dirtyAccount i

theorem charge (m : Moves k s u) (i : Slot) (levy : BitVec 16) (amount quanta : Nat) :
    Moves k s (u.charge i { u.bodyAt i with lastLevy := levy } amount quanta) := by
  have concluded := m.conclude i _ false (.charged levy amount quanta)
  simp only [State.charge]
  split
  · exact concluded.raiseSlot i _
  · exact concluded

/-- A charge that leaves the number of the last levy. -/
theorem charge_self (m : Moves k s u) (i : Slot) (amount quanta : Nat) :
    Moves k s (u.charge i (u.bodyAt i) amount quanta) := m.charge i (u.bodyAt i).lastLevy amount quanta

end Moves

end Sys2Proof.Machine
end

section
/-! Proofs about every step: each command is a chain of the changes of its blocks, or a reset. -/

set_option Elab.async false

namespace Sys2Proof.Machine

/-! ## Answers -/

/-- Every next state that a result answers meets `P`. -/
def Ends (r : Result) (P : State → Prop) : Prop := ∀ t, r = .next t → P t

theorem ends_next {P : State → Prop} {t : State} (h : P t) : Ends (.next t) P := by
  rintro _ ⟨⟩
  exact h

theorem ends_fault {P : State → Prop} {f : Fault} : Ends (.fault f) P := fun _ h => by simp at h

theorem ends_ite {P : State → Prop} {c : Prop} [Decidable c] {t u : State} (yes : c → P t) (no : P u) :
    Ends (.next (if c then t else u)) P := by
  split
  case isTrue h => exact ends_next (yes h)
  case isFalse => exact ends_next no

/-- A row that takes an event of its own frames. -/
theorem ends_row {P : State → Prop} {possible c : Bool} {t u : State} (yes : P t) (no : P u) :
    Ends (if !possible then .fault .illFormed else .next (if c = true then t else u)) P := by
  split
  · exact ends_fault
  · exact ends_ite (fun _ => yes) no

section Commands

variable {k : Scope} {s u v : State}

/-! ## Claims of the account table and the life cycle -/

theorem Taken.refused_state (s : State) (o : OutcomeCode) : (Taken.refused s o).state = s := rfl

theorem Taken.stale_state (s : State) (b : Body) : (Taken.stale s b).state = s := rfl

theorem Moves.refused (m : Moves k s u) (o : OutcomeCode) : Moves k s (Taken.refused u o).state := by
  rw [Taken.refused_state]
  exact m

theorem Moves.stale (m : Moves k s u) (b : Body) : Moves k s (Taken.stale u b).state := by
  rw [Taken.stale_state]
  exact m

theorem State.lookup_moves (s : State) (r : Reference) : Moves k s (s.lookup r).state := by
  have compared := (Moves.refl (k := k) s).checkCompared slots
  unfold State.lookup
  dsimp only
  split
  · exact compared.refused _
  · dsimp only
    exact compared

theorem State.readAccount_moves (s : State) (h : Handle) : Moves k s (s.readAccount h).state := by
  have start := Moves.refl (k := k) s
  unfold State.readAccount
  split
  · exact start.refused _
  case _ i _ =>
    dsimp only
    exact start.check i

theorem State.survey_moves (s : State) (first : Slot) : Moves k s (s.survey first).state := by
  have start := Moves.refl (k := k) s
  unfold State.survey
  dsimp only
  exact start.foldl (fun i m => m.check i) (s.surveyed first)

theorem State.openedSlot_change (s : State) (i : Slot) (a : OpenArgs) (opens : k.opens a) (free : s.lifeAt i = .free) :
    ∃ x, RecordChange k i (s.slotAt i) x ∧ s.openedSlot i a = x.sealed i :=
  ⟨_, .opened a (s.store.openSerial + 1#32) (nextGeneration (s.slotAt i).counter) (s.openedCredit a)
    (if s.opensLive a.channel then .live else .waiting) opens free, rfl⟩

theorem Moves.openAt (m : Moves k s u) {i : Slot} {a : OpenArgs} (opens : k.opens a) (free : u.lifeAt i = .free) :
    Moves k s (u.openAt i a).state := by
  obtain ⟨x, change, slot⟩ := u.openedSlot_change i a opens free
  have slots : (u.opened i a).store.slots = (u.putRecord i x).store.slots := by
    rw [State.opened, slot]
    rfl
  rw [State.openAt_eq]
  exact (((m.record i x change).lists (u.opened i a).store slots).mail (u.opened i a).au.inbox).setRu
    (u.opened i a).ru rfl rfl

theorem State.check_lifeAt_free {s : State} {i j : Slot} (free : s.lifeAt j = .free) : (s.check i).lifeAt j = .free := by
  by_cases same : j = i
  · subst same
    rcases s.check_cases j with ⟨-, e⟩ | ⟨-, ⟨held, life, -⟩ | ⟨held, life, -⟩ | ⟨life, -⟩ | ⟨-, e⟩⟩
    · rw [e]
      exact free
    · rw [free] at life
      cases held <;> cases life
    · rw [free] at life
      cases life
    · rw [free] at life
      cases life
    · rw [e, State.lifeAt, State.setSlot_slotAt_self]
      rfl
  · rw [State.lifeAt, s.check_other i j same]
    exact free

theorem State.checkCompared_lifeAt_free {s : State} {j : Slot} (l : List Slot) (free : s.lifeAt j = .free) :
    (s.checkCompared l).lifeAt j = .free := by
  induction l generalizing s with
  | nil => exact free
  | cons i rest ih =>
    rw [State.checkCompared]
    split
    · exact ih (State.check_lifeAt_free free)
    · exact ih free

theorem State.openAccount_moves {a : OpenArgs} (opens : k.opens a) : Moves k s (s.openAccount a).state := by
  have start := Moves.refl (k := k) s
  have compared := start.checkCompared slots
  unfold State.openAccount
  split
  · exact start.refused _
  case _ i found =>
    have free : s.lifeAt i = .free := by simpa using List.find?_some found
    have freeStill := State.checkCompared_lifeAt_free slots free
    dsimp only
    split_ifs
    · exact start.refused _
    · exact compared.refused _
    · exact compared.refused _
    · exact compared.openAt opens freeStill

/-- The state in which the first checks of a claim by handle refuse it. -/
theorem State.named_moves {h : Handle} {o : OutcomeCode} (refused : s.named h = .refused u o) : Moves k s u := by
  have start := Moves.refl (k := k) s
  rcases s.named_cases h with e | ⟨i, held, -, -, e⟩ | ⟨i, -, -, e⟩ | ⟨i, -, -, ⟨-, e⟩ | ⟨-, e⟩⟩
  case inr.inr.inr.inl => exact Named.noConfusion (e.symm.trans refused)
  case inl =>
    obtain ⟨rfl, -⟩ := Named.refused.inj (e.symm.trans refused)
    exact start
  all_goals
    obtain ⟨rfl, -⟩ := Named.refused.inj (e.symm.trans refused)
    exact start.check i

theorem State.named_found {h : Handle} {i : Slot} (found : s.named h = .found i) :
    s.lifeAt i = .waiting ∨ s.lifeAt i = .live ∨ s.lifeAt i = .settled := by
  rcases s.named_cases h with e | ⟨j, held, -, -, e⟩ | ⟨j, -, -, e⟩ | ⟨j, -, life, ⟨-, e⟩ | ⟨-, e⟩⟩
  all_goals
    rw [e] at found
    cases found
  exact life

theorem hasReference_of_account {l : Life} (h : l = .waiting ∨ l = .live ∨ l = .settled) : hasReference l = true := by
  rcases h with rfl | rfl | rfl <;> rfl

theorem isQuarantined_of_account {l : Life} (h : l = .waiting ∨ l = .live ∨ l = .settled) :
    isQuarantined l = false := by
  rcases h with rfl | rfl | rfl <;> rfl

theorem State.close_moves {h : Handle} {v : Option (BitVec 16)} (host : k.host) :
    Moves k s (s.close h v).state := by
  have start := Moves.refl (k := k) s
  unfold State.close
  split
  case _ refused => exact (State.named_moves refused).refused _
  case _ i found =>
    have account := State.named_found found
    split_ifs
    · exact start.refused _
    · exact start.stale _
    · exact ((start.record i _ (.closed host (hasReference_of_account account)
        (isQuarantined_of_account account))).dirtyAccount i).leaveList s i

theorem Moves.freeSlotAt (m : Moves k s u) {i : Slot} (frees : k.frees i) : Moves k s (u.freeSlotAt i) :=
  ((m.record i _ (.freed frees)).dirtyAccount i).removeEntry i

theorem State.release_moves {h : Handle} (frees : ∀ i, k.frees i) : Moves k s (s.release h).state := by
  have start := Moves.refl (k := k) s
  unfold State.release
  split
  case _ refused => exact (State.named_moves refused).refused _
  case _ i found =>
    split_ifs
    · exact start.refused _
    · exact start.freeSlotAt (frees i)

theorem Moves.replaceInLists (m : Moves k s u) (s0 : State) (i : Slot) (n : Channel) :
    Moves k s (u.replaceInLists s0 i n) := by
  unfold State.replaceInLists
  dsimp only
  split
  · exact m.leaveList s0 i
  all_goals
    split_ifs
    · exact (m.setList n _).setList n _
    · exact (m.leaveList s0 i).setList n _

/-- The record that REWRITE writes, over a state in which the bar may have been lifted (R36). -/
theorem Moves.rewritten (m : Moves k s v) {i : Slot} (a : RewriteArgs) (result : Life) (host : k.host)
    (slot : v.slotAt i = u.slotAt i) (fits : (u.bodyAt i).reconcilable = true) :
    Moves k s (v.putRecord i { u.slotAt i with
      life := result
      body :=
        if result = .live then (rewrittenBody (u.bodyAt i) a (u.lifeAt i) result).evaluated false
        else rewrittenBody (u.bodyAt i) a (u.lifeAt i) result }) := by
  refine m.record i _ ?_
  rw [slot]
  exact .rewritten a result host fits

theorem Moves.rewriteAt (m : Moves k s u) {i : Slot} {a : RewriteArgs} (host : k.host)
    (fits : (u.bodyAt i).reconcilable = true) : Moves k s (u.rewriteAt i a).state := by
  have result := u.rewrittenLife a i
  unfold State.rewriteAt
  dsimp only
  by_cases quarantined : isQuarantined (u.lifeAt i) = true
  · have written := (m.liftBar i).rewritten (u := u) a (u.rewrittenLife a i) host rfl fits
    simp only [if_pos quarantined]
    split_ifs at written ⊢
    · exact ((written.raiseEntered i _ _).dirtyAccount i).replaceInLists u i a.channel
    · exact ((written.raiseEntered i _ _).dirtyAccount i).replaceInLists u i a.channel
    · exact (written.dirtyAccount i).replaceInLists u i a.channel
  · have written := m.rewritten (u := u) a (u.rewrittenLife a i) host rfl fits
    simp only [if_neg quarantined]
    split_ifs at written ⊢
    · exact (written.raiseEntered i _ _).dirtyAccount i
    · exact (written.raiseEntered i _ _).dirtyAccount i
    · exact written.dirtyAccount i

/-- The comparison leaves the slots that it is not asked to check. -/
theorem State.checkCompared_other (s : State) {l : List Slot} {j : Slot} (other : j ∉ l) :
    (s.checkCompared l).slotAt j = s.slotAt j := by
  induction l generalizing s with
  | nil => rfl
  | cons i rest ih =>
    obtain ⟨notHead, notRest⟩ := not_or.mp (List.mem_cons.not.mp other)
    rw [State.checkCompared, ih _ notRest]
    split
    · exact s.check_other i j notHead
    · rfl

theorem Moves.rewriteChecked (m : Moves k s u) {i : Slot} {a : RewriteArgs} (host : k.host) :
    Moves k s (u.rewriteChecked i a).state := by
  have compared := m.checkCompared (slots.filter (· != i))
  have body : (u.checkCompared (slots.filter (· != i))).bodyAt i = u.bodyAt i :=
    congrArg SlotState.body (u.checkCompared_other (by simp))
  unfold State.rewriteChecked
  dsimp only
  split_ifs with stale place duplicate taken full fits
  · exact m.stale _
  · exact m.refused _
  · exact compared.refused _
  · exact compared.refused _
  · exact compared.refused _
  · exact compared.refused _
  · refine compared.rewriteAt host ?_
    rw [body]
    simpa using fits

theorem State.rewrite_moves {a : RewriteArgs} (host : k.host) : Moves k s (s.rewrite a).state := by
  have start := Moves.refl (k := k) s
  unfold State.rewrite
  split
  case _ => exact start.refused _
  case _ i _ =>
    split
    · exact start.refused _
    · exact start.refused _
    · exact (start.check i).rewriteChecked host
    all_goals
      split_ifs
      · exact start.rewriteChecked host
      · exact (start.check i).refused _

theorem Moves.discardAt (m : Moves k s u) {i : Slot} (frees : k.frees i) : Moves k s (u.discardAt i).state := by
  unfold State.discardAt
  dsimp only
  split_ifs
  · exact ((m.liftBar i).leaveList u i).freeSlotAt frees
  · exact (m.leaveList u i).freeSlotAt frees

theorem State.discard_moves {h : Handle} (frees : ∀ i, s.isAccount i = false → k.frees i) :
    Moves k s (s.discard h).state := by
  have start := Moves.refl (k := k) s
  unfold State.discard
  split
  case _ => exact start.refused _
  case _ i _ =>
    split
    case _ life => exact (start.check i).discardAt (frees i (by rw [State.isAccount, life]))
    case _ life => exact (start.check i).discardAt (frees i (by rw [State.isAccount, life]))
    case _ => exact start.refused _
    all_goals
      split_ifs
      · exact start.refused _
      · exact (start.check i).refused _

/-! ## Credit -/

theorem State.topUp_moves {a : TopUpArgs} (host : k.host) : Moves k s (s.topUp a).state := by
  have start := Moves.refl (k := k) s
  unfold State.topUp
  split
  case _ refused => exact (State.named_moves refused).refused _
  case _ i _ =>
    dsimp only
    split_ifs with settled used stale fits
    · exact start.refused _
    · exact start
    · exact start.stale _
    · exact start.refused _
    · exact start.conclude i _ true (.toppedUp a.voucher a.amount host (by simpa using fits))

theorem State.adjust_moves {a : AdjustArgs} (host : k.host) : Moves k s (s.adjust a).state := by
  have start := Moves.refl (k := k) s
  unfold State.adjust
  split
  case _ refused => exact (State.named_moves refused).refused _
  case _ i _ =>
    dsimp only
    split_ifs with settled stale fits
    · exact start.refused _
    · exact start.stale _
    · exact start.refused _
    · exact start.conclude i _ _ (.adjusted a.amount host (by simpa using fits))

theorem State.setLimits_moves {a : LimitsArgs} (host : k.host) : Moves k s (s.setLimits a).state := by
  have start := Moves.refl (k := k) s
  unfold State.setLimits
  split
  case _ refused => exact (State.named_moves refused).refused _
  case _ i _ =>
    dsimp only
    split_ifs
    · exact start.refused _
    · exact start.stale _
    · exact start.conclude i _ false (.limited a host)

theorem State.quantumDebit_moves (s : State) (n : Channel) : Moves k s (s.quantumDebit n).1 := by
  have start := Moves.refl (k := k) s
  unfold State.quantumDebit
  split
  case _ => exact start
  case _ i _ =>
    split_ifs <;> dsimp only
    · exact start
    · exact (start.charge_self i _ 1).sendNotices s
    · exact (start.check i).sendNotices s

theorem State.engage_moves (s : State) (n : Channel) (h : Handle) : Moves k s (s.engage n h).1 := by
  have start := Moves.refl (k := k) s
  unfold State.engage
  split
  case _ => exact start
  case _ i _ =>
    dsimp only
    split_ifs <;> dsimp only
    · exact start
    · exact (start.check i).sendNotices s
    · exact start
    · exact (start.conclude i _ false (.engaged .inUse)).sendNotices s

theorem State.levy_moves (s : State) (c : LevyClaim) : Moves k s (s.levy c).1 := by
  have start := Moves.refl (k := k) s
  unfold State.levy
  split
  case _ => exact start
  case _ i _ =>
    dsimp only
    split_ifs <;> dsimp only
    · exact (start.check i).sendNotices s
    · exact start
    · exact (start.charge i c.number _ 0).sendNotices s

theorem State.billBegin_moves (s : State) (n : Channel) (h : Handle) : Moves k s (s.billBegin n h) := by
  have start := Moves.refl (k := k) s
  unfold State.billBegin
  split
  case _ refused => exact ((State.named_moves refused).refused _).finishClaim
  case _ i _ =>
    split_ifs
    · exact start.answer .wrongState []
    · exact start.lists { s.store with billing := some { channel := n, slot := i, count := none } } rfl
    · exact start.answer .badArgument []

theorem State.billEnd_moves (s : State) (i : Slot) (count : Nat) : Moves k s (s.billEnd i count) := by
  have free := (Moves.refl (k := k) s).lists { s.store with billing := none } rfl
  have charged := free.charge_self i (count * (s.priceFor (s.bodyAt i)).toNat) count
  unfold State.billEnd
  dsimp only
  refine Moves.finishClaim ?_
  dsimp only
  split_ifs
  · exact free
  · exact charged

end Commands

end Sys2Proof.Machine
end

section
/-! Proofs about every step: the rows of the blocks, each a chain of changes. -/

set_option Elab.async false

namespace Sys2Proof.Machine

section Rows

variable {k : Scope} {s u : State}

/-- Unfolds nothing: a row that does nothing ends where it began. -/
theorem ends_unchanged : Ends (.next s) (Moves k s) := ends_next (.refl s)

/-! ## Claims of the Request Engine at the Store -/

/-- A claim done whole, if the Store takes it (R17). -/
theorem ends_whole {t : Taken} (m : Moves k s t.state) :
    Ends (.next (if s.storeTakes then s.finishClaim t else s)) (Moves k s) :=
  ends_ite (fun _ => m.finishClaim) (.refl s)

theorem execLookup_moves : Ends (execLookup s) (Moves k s) := by
  unfold execLookup
  split
  · exact ends_whole (s.lookup_moves _)
  · exact ends_unchanged

theorem execReadAccount_moves : Ends (execReadAccount s) (Moves k s) := by
  unfold execReadAccount
  split
  · exact ends_whole (s.readAccount_moves _)
  · exact ends_unchanged

theorem execSurvey_moves : Ends (execSurvey s) (Moves k s) := by
  unfold execSurvey
  split
  · exact ends_whole (s.survey_moves _)
  · exact ends_unchanged

theorem execOpenAccount_moves (opens : ∀ a, s.claim = some (.openAccount a) → k.opens a) :
    Ends (execOpenAccount s) (Moves k s) := by
  unfold execOpenAccount
  split
  case _ a claimed => exact ends_whole (State.openAccount_moves (opens a claimed))
  case _ => exact ends_unchanged

theorem execClose_moves (host : k.host) : Ends (execClose s) (Moves k s) := by
  unfold execClose
  split
  · exact ends_whole (State.close_moves host)
  · exact ends_unchanged

theorem execRelease_moves (frees : ∀ i, k.frees i) : Ends (execRelease s) (Moves k s) := by
  unfold execRelease
  split
  · exact ends_whole (State.release_moves frees)
  · exact ends_unchanged

theorem execRewrite_moves (host : k.host) : Ends (execRewrite s) (Moves k s) := by
  unfold execRewrite
  split
  · exact ends_whole (State.rewrite_moves host)
  · exact ends_unchanged

theorem execDiscard_moves (frees : ∀ i, s.isAccount i = false → k.frees i) : Ends (execDiscard s) (Moves k s) := by
  unfold execDiscard
  split
  · exact ends_whole (State.discard_moves frees)
  · exact ends_unchanged

theorem execTopUp_moves (host : k.host) : Ends (execTopUp s) (Moves k s) := by
  unfold execTopUp
  split
  · exact ends_whole (State.topUp_moves host)
  · exact ends_unchanged

theorem execAdjust_moves (host : k.host) : Ends (execAdjust s) (Moves k s) := by
  unfold execAdjust
  split
  · exact ends_whole (State.adjust_moves host)
  · exact ends_unchanged

theorem execSetLimits_moves (host : k.host) : Ends (execSetLimits s) (Moves k s) := by
  unfold execSetLimits
  split
  · exact ends_whole (State.setLimits_moves host)
  · exact ends_unchanged

theorem execBillUnbilled_moves : Ends (execBillUnbilled s) (Moves k s) := by
  unfold execBillUnbilled
  split
  · split
    · exact ends_ite (fun _ => s.billBegin_moves _ _) (.refl s)
    · exact ends_next (s.billEnd_moves _ _)
    · exact ends_unchanged
  · exact ends_unchanged

theorem execUnbilledCountTake_moves (n : Channel) : Ends (execUnbilledCountTake n s) (Moves k s) := by
  unfold execUnbilledCountTake
  split
  case _ b _ =>
    split_ifs
    · exact ends_next (((Moves.refl s).setCq n { s.cqAt n with unbilled := 0 }).lists
        { s.store with billing := some { b with count := some (s.cqAt n).unbilled } } rfl)
    · exact ends_unchanged
  case _ => exact ends_unchanged

/-! ## Claims of the field at the Store -/

theorem execQuantumDebit_moves (n : Channel) : Ends (execQuantumDebit n s) (Moves k s) :=
  ends_ite (fun _ => (s.quantumDebit_moves n).setCq n _) (.refl s)

theorem execEmergencyEngage_moves (n : Channel) : Ends (execEmergencyEngage n s) (Moves k s) := by
  unfold execEmergencyEngage
  split
  · exact ends_unchanged
  case _ e _ => exact ends_next ((s.engage_moves n e.handle).setSc n _ (.kept rfl rfl rfl))

theorem execLevyClaim_moves : Ends (execLevyClaim s) (Moves k s) := by
  unfold execLevyClaim
  split
  · exact ends_unchanged
  case _ c _ => exact ends_next ((s.levy_moves c).setLe _)

/-! ## The Tariff Unit and the Levy Engine -/

theorem execSetBand_moves : Ends (execSetBand s) (Moves k s) := by
  unfold execSetBand
  split
  case _ band _ =>
    have written := (Moves.refl (k := k) s).setTu { s.tu with band := band }
    refine ends_next ?_
    unfold State.takeBand
    dsimp only
    split_ifs
    · exact written.answer _ _
    · exact (written.dirty .tariff .settings).answer _ _
  case _ => exact ends_unchanged

theorem execSetPrice_moves : Ends (execSetPrice s) (Moves k s) := by
  unfold execSetPrice
  split
  · exact ends_next (((Moves.refl s).setTu _).answer _ _)
  · exact ends_unchanged

theorem execSetStanding_moves : Ends (execSetStanding s) (Moves k s) := by
  unfold execSetStanding
  split
  · exact ends_next (((Moves.refl s).setTu _).answer _ _)
  · exact ends_unchanged

theorem execReadTariff_moves : Ends (execReadTariff s) (Moves k s) := by
  unfold execReadTariff
  split
  · exact ends_next ((Moves.refl s).answer _ _)
  · exact ends_unchanged

theorem execCommitTariffs_moves : Ends (execCommitTariffs s) (Moves k s) := by
  unfold execCommitTariffs
  split
  · have start := Moves.refl (k := k) s
    unfold State.takeCommit
    split_ifs
    · exact ends_next (((start.setTu _).dirty .tariff .tariff).answer _ _)
    · exact ends_next (start.answer _ _)
  · exact ends_unchanged

theorem execLevy_moves : Ends (execLevy s) (Moves k s) := by
  unfold execLevy
  split
  · have start := Moves.refl (k := k) s
    unfold State.takeLevy
    split
    · exact ends_next ((start.setLe _).answer _ _)
    all_goals exact ends_next (start.answer _ _)
  · exact ends_unchanged

theorem execCancelLevy_moves : Ends (execCancelLevy s) (Moves k s) := by
  unfold execCancelLevy
  split
  · have start := Moves.refl (k := k) s
    unfold State.takeCancel
    split
    · exact ends_next (start.answer _ _)
    · exact ends_next ((start.setLe _).answer _ _)
    · exact ends_next (start.answer _ _)
  · exact ends_unchanged

theorem execLevyResult_moves : Ends (execLevyResult s) (Moves k s) := by
  unfold execLevyResult
  split
  · exact ends_unchanged
  · have start := Moves.refl (k := k) s
    unfold State.takeLevyResult
    split
    · exact ends_next (start.setLe _)
    · split_ifs
      · exact ends_next (start.setLe _)
      · exact ends_next ((start.setLe _).raise .levy _)
    · exact ends_next ((start.setLe _).raise .levy _)

/-! ## The Channel Quantizers -/

theorem Moves.formQuantum (m : Moves k s u) (n : Channel) : Moves k s (u.formQuantum n) := by
  unfold State.formQuantum
  dsimp only
  split_ifs
  · exact (m.raise _ _).setCq n _
  · exact m.setCq n _

theorem execPulseRecogniserEdge_moves (n : Channel) (level : Bool) :
    Ends (execPulseRecogniserEdge n level s) (Moves k s) := by
  have seen := (Moves.refl (k := k) s).step (.inputs { s.pins with pls := setWith s.pins.pls n.val level })
  unfold execPulseRecogniserEdge
  exact ends_ite (fun _ => seen) (seen.setCq n _)

theorem execPulseEvent_moves (n : Channel) : Ends (execPulseEvent n s) (Moves k s) := by
  have done := (Moves.refl (k := k) s).setCq n { s.cqAt n with recogniser := .waitDeassert }
  unfold execPulseEvent
  refine ends_ite (fun _ => ?_) (.refl s)
  unfold State.pulse
  dsimp only
  split
  · split_ifs
    · exact done.formQuantum n
    · exact done.setCq n _
  · split_ifs
    · exact done.setCq n _
    · exact (done.setCq n _).formQuantum n

theorem execWindowTimerExpiry_moves (n : Channel) : Ends (execWindowTimerExpiry n s) (Moves k s) := by
  unfold execWindowTimerExpiry
  split
  · exact ends_unchanged
  · exact ends_next ((Moves.refl s).setCq n _)

theorem execDebitResult_moves (n : Channel) : Ends (execDebitResult n s) (Moves k s) := by
  unfold execDebitResult
  split
  · exact ends_unchanged
  · have start := Moves.refl (k := k) s
    unfold State.takeDebitResult
    dsimp only
    split
    · exact ends_next (start.setCq n _)
    · split_ifs
      · exact ends_next ((start.setCq n _).raise _ _)
      · exact ends_next (start.setCq n _)
      · exact ends_next (start.setCq n _)

theorem execConfigureChannel_moves : Ends (execConfigureChannel s) (Moves k s) := by
  unfold execConfigureChannel
  split
  case _ n c _ =>
    have configured := (Moves.refl (k := k) s).setCq n ((s.cqAt n).configured c)
    unfold State.configure
    dsimp only
    split_ifs
    · exact ends_next (configured.answer _ _)
    · exact ends_next ((configured.dirty _ _).answer _ _)
  case _ => exact ends_unchanged

theorem execReadChannel_moves (half : ChannelHalf) : Ends (execReadChannel half s) (Moves k s) := by
  unfold execReadChannel
  split
  · split
    all_goals exact ends_ite (fun _ => .refl s) ((Moves.refl s).phase _)
  · exact ends_unchanged

/-! ## The Attention Unit -/

theorem execCauseRaise_moves (source : Block) : Ends (execCauseRaise source s) (Moves k s) := by
  unfold execCauseRaise
  split
  · exact ends_fault
  · split
    case _ r rest _ =>
      exact ends_next (((Moves.refl s).mail rest).step (.attention _ (.raise r)))
    case _ => exact ends_unchanged

theorem execSlotEntryRemoval_moves : Ends (execSlotEntryRemoval s) (Moves k s) := by
  unfold execSlotEntryRemoval
  split
  case _ i rest _ =>
    exact ends_next (((Moves.refl s).mail rest).step (.attention _ (.removal i)))
  case _ => exact ends_unchanged

theorem execFetchAttention_moves : Ends (execFetchAttention s) (Moves k s) := by
  unfold execFetchAttention
  split
  · exact ends_next ((Moves.refl s).answer _ _)
  · exact ends_unchanged

theorem execAckAttention_moves : Ends (execAckAttention s) (Moves k s) := by
  unfold execAckAttention
  split
  case _ x causes _ =>
    exact ends_next (((Moves.refl s).step (.attention _ (.acknowledged x causes))).answer _ _)
  case _ => exact ends_unchanged

theorem execSetAttentionMask_moves : Ends (execSetAttentionMask s) (Moves k s) := by
  unfold execSetAttentionMask
  split
  case _ mask _ =>
    exact ends_next (((Moves.refl s).step (.attention _ (.mail mask s.au.inbox))).answer _ _)
  case _ => exact ends_unchanged

end Rows

end Sys2Proof.Machine
end

section
/-! Proofs about every step: the rows of the link, of the Retention Unit, of the Supply Controllers and of restore, each a
chain of changes; and the row of every command. -/

set_option Elab.async false

namespace Sys2Proof.Machine

section Rows

variable {k : Scope} {s u : State}

/-! ## The Host Link and the Request Engine -/

theorem Moves.setFrame (m : Moves k s u) (l : Link) (requests : l.requests = u.hl.requests)
    (responses : l.responses = u.hl.responses) : Moves k s (u.setHl l) :=
  m.setHl l (.frame l requests responses)

theorem Moves.linkByte (m : Moves k s u) (b : Byte) : Moves k s (u.linkByte b) := by
  unfold State.linkByte
  dsimp only
  split
  · exact m
  · split_ifs <;> exact m.setFrame _ rfl rfl
  all_goals exact m.setFrame _ rfl rfl

theorem Moves.linkBit (m : Moves k s u) (bit : Bool) : Moves k s (u.linkBit bit) := by
  unfold State.linkBit
  split
  · exact m.linkByte _
  · exact m.setFrame _ rfl rfl

/-- A request is admitted only while its queue has a place (R167). -/
theorem room_of_admission {stored : List Byte} {count : Nat} (accepted : admission s stored count = .accepted) :
    s.hl.requests.length < queueDepth := by
  unfold admission at accepted
  dsimp only at accepted
  split_ifs at accepted with _ _ _ full _
  omega

theorem Moves.endRequest (m : Moves k s u) : Moves k s u.endRequest := by
  unfold State.endRequest
  split
  case _ accepted =>
    exact (m.setFrame (u.hl.ended .accepted) rfl rfl).setHl _ (.admitted (requestOf u.hl.stored) (room_of_admission accepted))
  case _ => exact m.setFrame _ rfl rfl

theorem Moves.takeRequest (m : Moves k s u) : Moves k s u.takeRequest := m.step .requestTaken

theorem Moves.endFetch (m : Moves k s u) : Moves k s u.endFetch := by
  have fetched := (m.setFrame (u.hl.ended .accepted) rfl rfl).setHl _ .fetched
  unfold State.endFetch
  split
  · exact m.setFrame _ rfl rfl
  · split
    · exact m.setFrame _ rfl rfl
    · dsimp only
      split
      · exact fetched.takeRequest
      · exact fetched

theorem Moves.linkDeassert (m : Moves k s u) : Moves k s u.linkDeassert := by
  unfold State.linkDeassert
  split
  · exact m
  · exact m.setFrame _ rfl rfl
  · exact m.endRequest
  · exact m.endFetch
  · exact m.setFrame _ rfl rfl
  · exact m.setFrame _ rfl rfl

theorem State.linkEvent_moves (s : State) (e : LinkEvent) : Moves k s (s.linkEvent e) := by
  have start := Moves.refl (k := k) s
  have asserted : Moves k s s.linkAssert := start.setFrame _ rfl rfl
  cases e with
  | frame mosi => exact (asserted.foldl (fun b m => m.linkByte b) mosi).linkDeassert
  | csnAsserts => exact asserted
  | byte b => exact start.linkByte b
  | clock bit => exact start.linkBit bit
  | csnDeasserts => exact start.linkDeassert

/-- An event of a frame is the link's, or the row has no part in it. -/
theorem ends_link {possible belongs : Bool} (e : LinkEvent) :
    Ends (if !possible then .fault .illFormed else .next (if belongs = true then s.linkEvent e else s)) (Moves k s) :=
  ends_row (s.linkEvent_moves e) (.refl s)

theorem execGapTimerExpiry_moves : Ends (execGapTimerExpiry s) (Moves k s) :=
  ends_ite (fun _ => (Moves.refl s).setFrame _ rfl rfl) (.refl s)

theorem execRequestTake_moves : Ends (execRequestTake s) (Moves k s) := ends_next (Moves.refl s).takeRequest

theorem execResponseQueue_moves : Ends (execResponseQueue s) (Moves k s) := by
  unfold execResponseQueue
  split
  case _ served => exact ends_next ((Moves.refl s).step (.responseQueued _ (by rw [served]; rfl)))
  case _ => exact ends_unchanged

/-! ## The Retention Unit -/

theorem Retention.drainComplete_change (r : Retention) : RetentionChange r r.drainComplete := by
  rcases r.drainComplete_cases with same | ⟨-, -, -, -, sent⟩
  · rw [same]
    exact .other r rfl rfl
  · rw [sent]
    exact .other _ rfl rfl

theorem Moves.settle (m : Moves k s u) (r : Retention) (change : RetentionChange u.ru r) :
    Moves k s (u.setRu r.settle) :=
  ((m.retention change).retention .taken).retention r.commitTake.drainComplete_change

theorem execDirtying_moves (source : Block) : Ends (execDirtying source s) (Moves k s) := by
  unfold execDirtying
  split
  · exact ends_fault
  · split
    · exact ends_unchanged
    case _ x rest _ =>
      exact ends_next (((Moves.refl s).setRu { s.ru with inbox := rest } rfl rfl).settle _ (.dirtied x))

theorem execCommitTake_moves : Ends (execCommitTake s) (Moves k s) := ends_next ((Moves.refl s).retention .taken)

theorem Moves.snapshotTaken (m : Moves k s u) (i : Slot) : Moves k s (u.snapshotTaken i) := m.setRu _ rfl rfl

theorem Moves.snapshotDropped (m : Moves k s u) : Moves k s u.snapshotDropped :=
  m.settle { u.ru with engine := .idle } (.other _ rfl rfl)

theorem State.snapshot_moves (s : State) (i : Slot) : Moves k s (s.snapshot i) := by
  have start := Moves.refl (k := k) s
  unfold State.snapshot
  split
  case _ | _ | _ =>
    split_ifs
    · exact start.snapshotTaken i
    · exact ((start.check i).sendNotices s).snapshotDropped
  · exact start.snapshotDropped
  · exact (start.check i).snapshotTaken i
  · exact (start.check i).snapshotDropped

theorem execSnapshotClaim_moves : Ends (execSnapshotClaim s) (Moves k s) := by
  unfold execSnapshotClaim
  split
  · exact ends_unchanged
  · exact ends_ite (fun _ => s.snapshot_moves _) (.refl s)

theorem execSnapshotPart_moves (owner : Block) : Ends (execSnapshotPart owner s) (Moves k s) := by
  unfold execSnapshotPart
  split
  · exact ends_fault
  · split
    · exact ends_ite (fun _ => .refl s) ((Moves.refl s).setRu _ rfl rfl)
    all_goals exact ends_unchanged

theorem execWriteStart_moves : Ends (execWriteStart s) (Moves k s) := by
  unfold execWriteStart
  split
  · split
    · exact ends_unchanged
    · exact ends_next ((Moves.refl s).setRu _ rfl rfl)
  all_goals exact ends_unchanged

theorem Moves.complete (m : Moves k s u) (w : Write) (found : NvCopy) :
    Moves k s (u.setRu (u.ru.complete w found)) := by
  unfold Retention.complete
  dsimp only
  split_ifs
  · exact m.settle _ (.other _ rfl rfl)
  · exact (m.setRu { u.ru with
      array := arrayWith u.ru.array w.item w.copy found
      directory :=
        u.ru.directory.map fun d => d.put w.item ((d.get w.item).completed w (found == w.stored))
      engine := .idle
      writeFaults := min (u.ru.writeFaults + 1) 65535 } rfl rfl).settle _ (.dirtied w.item)

theorem execWriteCompletion_moves (found : Option NvCopy) : Ends (execWriteCompletion found s) (Moves k s) := by
  unfold execWriteCompletion
  split
  · exact ends_next ((Moves.refl s).complete _ _)
  all_goals exact ends_unchanged

theorem Moves.setPfw (m : Moves k s u) (level : Bool) (power : Power) : Moves k s (u.setPfw level power) :=
  (m.setRu { u.ru with pfw := level, pfwRun := 0, power := power } rfl rfl).step (.inputs _)

theorem execPfwEvent_moves (level : Bool) : Ends (execPfwEvent level s) (Moves k s) := by
  have start := Moves.refl (k := k) s
  unfold execPfwEvent
  split
  · exact ends_unchanged
  · split
    · exact ends_ite (fun _ => (start.setPfw level .holdup).raise _ _) (start.setPfw level .run)
    all_goals exact ends_next (start.setPfw level _)

theorem execIdentify_moves : Ends (execIdentify s) (Moves k s) := by
  unfold execIdentify
  split
  · exact ends_next ((Moves.refl s).answer _ _)
  · exact ends_unchanged

theorem execReadDevice_moves (owner : Block) : Ends (execReadDevice owner s) (Moves k s) := by
  unfold execReadDevice
  split
  · exact ends_fault
  · split
    · split
      case _ | _ | _ => exact ends_ite (fun _ => .refl s) ((Moves.refl s).phase _)
      all_goals exact ends_unchanged
    · exact ends_unchanged

theorem execSoftReset_moves : Ends (execSoftReset s) (Moves k s) := by
  unfold execSoftReset
  split
  · have start := Moves.refl (k := k) s
    have draining := start.setRu { s.ru with power := .draining } rfl rfl
    unfold State.takeSoftReset
    split
    · exact ends_next (start.answer _ _)
    · exact ends_ite (fun _ => start.answer _ _)
        ((draining.retention (Retention.drainComplete_change _)).step .requestDropped)
    all_goals exact ends_unchanged
  · exact ends_unchanged

theorem execDrainComplete_moves : Ends (execDrainComplete s) (Moves k s) :=
  ends_next ((Moves.refl s).retention s.ru.drainComplete_change)

theorem execStop_moves (block : Block) : Ends (execStop block s) (Moves k s) := by
  unfold execStop
  split
  · exact ends_fault
  · split
    · exact ends_unchanged
    · exact ends_ite (fun _ => .refl s) ((Moves.refl s).setRu _ rfl rfl)

/-! ## The Supply Controllers -/

/-- What may change at a controller without a change of its state, drive line or timer. -/
theorem Moves.setKept (m : Moves k s u) (n : Channel) (d : Supply) (state : d.state = (u.scAt n).state)
    (drive : d.drive = (u.scAt n).drive) (timer : d.timer = (u.scAt n).timer) : Moves k s (u.setSc n d) :=
  m.setSc n d (.kept state drive timer)

theorem Moves.beginOpening (m : Moves k s u) (n : Channel)
    (source : (u.scAt n).state = .closed ∨ (u.scAt n).state = .adopting) : Moves k s (u.beginOpening n) :=
  m.setSc n _ (.opening source rfl rfl rfl)

theorem Moves.beginClosing (m : Moves k s u) (n : Channel) (source : (u.scAt n).state = .adopting ∨ k.starts n) :
    Moves k s (u.beginClosing n) :=
  m.setSc n _ (.closing source rfl rfl rfl)

theorem Moves.enterFault (m : Moves k s u) (n : Channel) (kind : FaultKind) : Moves k s (u.enterFault n kind) :=
  (m.setSc n _ (.fault kind rfl rfl rfl)).raise _ _

theorem Moves.evaluate (m : Moves k s u) (n : Channel) : Moves k s (u.evaluate n) := by
  rcases u.evaluate_cases n with same | ⟨closed, -, same⟩ | ⟨opened, -, same⟩ | ⟨armed, -, same⟩
  · rw [same]
    exact m
  · rw [same]
    exact m.beginOpening n (.inl closed)
  · rw [same]
    exact (m.setSc n { u.scAt n with state := .armed } (.armed opened rfl rfl rfl)).raise _ _
  · rw [same]
    exact m.setSc n { u.scAt n with state := .opened } (.opened (.inl armed) rfl rfl rfl)

theorem execNotice_moves (n : Channel) : Ends (execNotice n s) (Moves k s) := by
  unfold execNotice
  split
  · exact ends_unchanged
  case _ v rest _ =>
    exact ends_next (((Moves.refl s).setKept n { s.scAt n with view := v, notices := rest } rfl rfl rfl).evaluate n)

theorem Moves.setFeedback (m : Moves k s u) (n : Channel) (level : Bool) : Moves k s (u.setFeedback n level) :=
  (m.setKept n { u.scAt n with feedback := level, feedbackRun := 0 } rfl rfl rfl).step (.inputs _)

theorem State.setFeedback_scAt_self (s : State) (n : Channel) (level : Bool) :
    (s.setFeedback n level).scAt n = { s.scAt n with feedback := level, feedbackRun := 0 } :=
  s.setSc_scAt_self n _

theorem State.feedbackChanged_moves (s : State) (n : Channel) (level : Bool) :
    Moves k s (s.feedbackChanged n level) := by
  have seen := (Moves.refl (k := k) s).setFeedback n level
  have same : ((s.setFeedback n level).scAt n).state = (s.scAt n).state := by rw [State.setFeedback_scAt_self]
  unfold State.feedbackChanged
  dsimp only
  split
  case _ opening =>
    split
    · exact seen
    · exact (seen.setSc n { (s.setFeedback n level).scAt n with state := .opened, timer := none }
        (.confirmedOpen (same.trans opening) rfl rfl rfl)).evaluate n
  case _ closing =>
    split
    · exact (seen.setSc n { (s.setFeedback n level).scAt n with state := .closed, timer := none }
        (.confirmedClosed (same.trans closing) rfl rfl rfl)).evaluate n
    · exact seen
  case _ =>
    split
    · exact seen
    · exact seen.enterFault n _
  case _ | _ =>
    split
    · exact seen.enterFault n _
    · exact seen
  all_goals exact seen

theorem execFeedbackEvent_moves (n : Channel) (level : Bool) : Ends (execFeedbackEvent n level s) (Moves k s) :=
  ends_ite (fun _ => .refl s) (s.feedbackChanged_moves n level)

theorem execOperationTimerExpiry_moves (n : Channel) : Ends (execOperationTimerExpiry n s) (Moves k s) := by
  have start := Moves.refl (k := k) s
  rcases execOperationTimerExpiry_cases n s with ⟨-, e⟩ | ⟨-, ⟨-, e⟩ | ⟨-, e⟩⟩
  · rw [e]
    exact ends_unchanged
  all_goals
    rw [e]
    exact ends_next (start.enterFault n _)

theorem execButtonRecogniserEdge_moves (n : Channel) (level : Bool) :
    Ends (execButtonRecogniserEdge n level s) (Moves k s) := by
  have seen := (Moves.refl (k := k) s).step (.inputs { s.pins with btn := setWith s.pins.btn n.val level })
  exact ends_ite (fun _ => seen) (seen.setKept n _ rfl rfl rfl)

theorem Moves.press (m : Moves k s u) (n : Channel) (starts : k.starts n) : Moves k s (u.press n) := by
  unfold State.press
  dsimp only
  split
  · exact m.beginClosing n (.inr starts)
  · split
    · exact m.setKept n _ rfl rfl rfl
    · exact m

theorem execPress_moves (n : Channel) (starts : k.starts n) : Ends (execPress n s) (Moves k s) := by
  have done := (Moves.refl (k := k) s).setKept n { s.scAt n with button := .waitDeassert } rfl rfl rfl
  refine ends_ite (fun _ => ?_) (.refl s)
  split
  · exact done
  · exact done.press n starts

theorem Moves.engageResolved (m : Moves k s u) (n : Channel) (e : Engage) (r : EngageResult)
    (starts : e.fromClosed = false → k.starts n) : Moves k s (u.engageResolved n e r) := by
  unfold State.engageResolved
  dsimp only
  split
  · split
    case isTrue asked =>
      have fromOpen : e.fromClosed = false := by simpa using asked.2.1
      split
      · exact m.beginClosing n (.inr (starts fromOpen))
      · exact m.evaluate n
    case isFalse => exact m
  · exact m

theorem execEngageResult_moves (n : Channel)
    (starts : ∀ e, (s.scAt n).engage = some e → e.fromClosed = false → k.starts n) :
    Ends (execEngageResult n s) (Moves k s) := by
  unfold execEngageResult
  split
  case _ e waits =>
    split
    case _ r _ =>
      exact ends_next (((Moves.refl s).setKept n { s.scAt n with engage := none } rfl rfl rfl).engageResolved n e r
        (starts e waits))
    · exact ends_unchanged
  case _ => exact ends_unchanged

theorem Moves.applyHold (m : Moves k s u) (n : Channel) (mask : BitVec 8) (set : Bool) :
    Moves k s (u.applyHold n mask set) := by
  unfold State.applyHold
  split
  · exact ((m.setKept n { u.scAt n with hold := set } rfl rfl rfl).dirty _ _).evaluate n
  · exact m

theorem execSetHold_moves (n : Channel) : Ends (execSetHold n s) (Moves k s) := by
  unfold execSetHold
  split
  · split
    · exact ends_unchanged
    · exact ends_next (((Moves.refl s).applyHold n _ _).phase _)
  · exact ends_unchanged

theorem execReconnect_moves (starts : ∀ n, (s.cqAt n).config.reconnect = true → k.starts n) :
    Ends (execReconnect s) (Moves k s) := by
  unfold execReconnect
  split
  case _ n _ =>
    have start := Moves.refl (k := k) s
    unfold State.takeReconnect
    exact ends_ite (fun allowed => (start.beginClosing n (.inr (starts n allowed.2))).answer _ _)
      (start.answer _ _)
  case _ => exact ends_unchanged

theorem execClearFault_moves : Ends (execClearFault s) (Moves k s) := by
  unfold execClearFault
  split
  case _ n _ =>
    have start := Moves.refl (k := k) s
    unfold State.takeClearFault
    exact ends_ite
      (fun allowed => ((start.setSc n { s.scAt n with state := .opened }
        (.opened (.inr (.inl allowed.1)) rfl rfl rfl)).evaluate n).answer _ _)
      (start.answer _ _)
  case _ => exact ends_unchanged

theorem Moves.adoptState (m : Moves k s u) (n : Channel) (adopting : (u.scAt n).state = .adopting) :
    Moves k s (u.adoptState n) := by
  unfold State.adoptState
  dsimp only
  split
  case _ drive feedback =>
    exact (m.setSc n { u.scAt n with state := .closed } (.closed adopting drive rfl rfl rfl)).evaluate n
  case _ => exact m.beginClosing n (.inl adopting)
  case _ =>
    split
    · exact m.enterFault n _
    · exact m.beginOpening n (.inr adopting)
  case _ drive feedback =>
    split
    · exact m.beginClosing n (.inl adopting)
    · exact (m.setSc n { u.scAt n with state := .opened }
        (.opened (.inr (.inr ⟨adopting, drive⟩)) rfl rfl rfl)).evaluate n

theorem execAdopt_moves (n : Channel) : Ends (execAdopt n s) (Moves k s) := by
  refine ends_ite (fun due => ?_) (.refl s)
  have adopting : (s.scAt n).state = .adopting := by
    simp only [State.adoptDue, Bool.and_eq_true, beq_iff_eq] at due
    exact due.1.2
  refine ((Moves.refl s).setKept n { s.scAt n with adopt := false, button := .waitDeassert } rfl rfl rfl).adoptState
    n ?_
  rw [State.setSc_scAt_self]
  exact adopting

end Rows

end Sys2Proof.Machine
end

section
/-! Proofs about every step: the rows of restore, each a chain of changes; and the row of every command. -/

set_option Elab.async false

namespace Sys2Proof.Machine

section Rows

variable {k : Scope} {s u : State}

/-! ## Restore -/

theorem execClassifyCopies_moves : Ends (execClassifyCopies s) (Moves k s) := by
  unfold execClassifyCopies
  split
  · exact ends_next ((Moves.refl s).setRu _ rfl rfl)
  · exact ends_unchanged

theorem Moves.loadSettings (m : Moves k s u) (x : Settings) : Moves k s (u.loadSettings x) := by
  have counters := m.step (.store
    { u.store with slots := Vector.ofFn fun i => { u.store.slots[i] with counter := x.counters[i] } } fun i => by
      simp [State.slotAt])
  have supplies := ((counters.step (.tariffs { u.tu with band := x.band })).step
    (.quantizers (Vector.ofFn fun n => { u.cq[n] with config := x.configs[n] }))).step
    (.supplies (Vector.ofFn fun n => { u.sc[n] with hold := x.holds[n] }) fun n => by
      refine .kept ?_ ?_ ?_ <;> simp [State.scAt])
  exact supplies

theorem Moves.lostItem (m : Moves k s u) (x : Item) (cause : DeviceCause) : Moves k s (u.lostItem x cause) :=
  (m.retention (.dirtied x)).raise _ _

theorem Moves.loadBank (m : Moves k s u) (bank : Bank) :
    Moves k s { u with tu := { u.tu with active := bank, shadow := bank } } := m.step (.tariffs _)

theorem execLoadSettingsAndTariff_moves : Ends (execLoadSettingsAndTariff s) (Moves k s) := by
  unfold execLoadSettingsAndTariff
  split
  · have loaded := (Moves.refl (k := k) s).loadSettings
      (((s.ru.latestContent .settings).bind parseSettings).getD .default)
    have lost := loaded.lostItem .settings .settingsLost
    dsimp only
    refine ends_next (Moves.setStage ?_ _)
    split_ifs
    · exact (lost.loadBank _).lostItem _ _
    · exact (loaded.loadBank _).lostItem _ _
    · exact lost.loadBank _
    · exact loaded.loadBank _
  · exact ends_unchanged

theorem Moves.loadRecord (m : Moves k s u) (i : Slot) (x : Loaded) (loads : k.loads) :
    Moves k s (u.loadRecord i x) := by
  unfold State.loadRecord
  dsimp only
  split
  · exact (m.record i _ (.loaded _ loads)).dirty _ _
  · exact m.record i _ (.loaded _ loads)

theorem Moves.loadFree (m : Moves k s u) (i : Slot) (loads : k.loads) : Moves k s (u.loadFree i) :=
  m.record i (freeRecord (u.slotAt i).counter) (.loaded _ loads)

theorem Moves.loadLost (m : Moves k s u) (i : Slot) (loads : k.loads) : Moves k s (u.loadLost i) := by
  have loaded (g : Generation) := m.record i (lostRecord g g) (.loaded _ loads)
  unfold State.loadLost
  dsimp only
  split
  · exact (((loaded _).dirty .store .settings).dirtyAccount i).raiseSlot i .lost
  · exact ((loaded _).dirtyAccount i).raiseSlot i .lost

theorem execRestoreLoad_moves (loads : k.loads) : Ends (execRestoreLoad s) (Moves k s) := by
  unfold execRestoreLoad
  split
  · exact ends_unchanged
  case _ i _ =>
    have start := Moves.refl (k := k) s
    refine ends_next (Moves.setStage ?_ _)
    unfold State.loadAccount
    dsimp only
    split
    · split
      · split
        · exact (start.tallied _).loadFree i loads
        · exact (start.tallied _).loadRecord i _ loads
      · exact start.tallied _
    · exact (start.tallied _).loadFree i loads
    · exact (start.tallied _).loadLost i loads

theorem Moves.conflict (m : Moves k s u) (i : Slot) : Moves k s (u.conflict i) :=
  (((m.record i _ (.conflict (keptClose (u.slotAt i)))).raiseSlot i .quarantined).bar i).tallied _

theorem execReferenceConflicts_moves : Ends (execReferenceConflicts s) (Moves k s) := by
  unfold execReferenceConflicts
  split
  · exact ends_next (((Moves.refl s).foldl (fun i m => m.conflict i) s.referenceLosers).setStage .occupancy)
  · exact ends_unchanged

theorem execOccupancyConflicts_moves : Ends (execOccupancyConflicts s) (Moves k s) := by
  have settled := (Moves.refl (k := k) s).foldl (fun i m => m.conflict i) (channels.flatMap s.occupancyLosers)
  have rebuilt (lists) := settled.lists { ((channels.flatMap s.occupancyLosers).foldl State.conflict s).store with
    lists := lists } rfl
  unfold execOccupancyConflicts
  split
  · exact ends_next ((rebuilt _).setStage .promotion)
  · exact ends_unchanged

theorem Moves.promoteAtRestore (m : Moves k s u) (n : Channel) : Moves k s (u.promoteAtRestore n) := by
  have promoted := m.promoteFrom n (u.listAt n)
  unfold State.promoteAtRestore State.promote
  split
  · split
    case _ after i found =>
      rw [found] at promoted
      exact promoted.tallied _
    case _ after found =>
      rw [found] at promoted
      exact promoted
  · exact m

theorem Moves.trimList (m : Moves k s u) (n : Channel) : Moves k s (u.trimList n) :=
  (m.foldl (fun h m => m.conflict (slotOf h)) ((u.listAt n).drop channelCapacity).reverse).setList n _

theorem execRestorePromotion_moves : Ends (execRestorePromotion s) (Moves k s) := by
  have promoted := (Moves.refl (k := k) s).foldl (fun n m => m.promoteAtRestore n) channels
  have trimmed := (promoted.mail s.au.inbox).foldl (fun n m => m.trimList n) channels
  unfold execRestorePromotion
  split
  · exact ends_next ((trimmed.mail (messagesReordered s.au.inbox _ _)).setStage .summary)
  · exact ends_unchanged

theorem execRestoreSummary_moves : Ends (execRestoreSummary s) (Moves k s) := by
  unfold execRestoreSummary
  split
  · dsimp only
    have counted := ((Moves.refl (k := k) s).setRu { s.ru with
      commitSerial := s.ru.highestCommit, summary := some s.ru.tally, stage := .adoption } rfl rfl).lists
      { s.store with openSerial := s.highestSerial } rfl
    refine ends_next ((counted.raise _ _).step (.supplies _ fun n => ?_))
    refine .kept ?_ ?_ ?_ <;> simp [State.scAt]
  · exact ends_unchanged

theorem execEndOfRestore_moves : Ends (execEndOfRestore s) (Moves k s) := by
  unfold execEndOfRestore
  split
  · have ended := (Moves.refl (k := k) s).settle { s.ru with power := endPower s.ru.pfw, stage := .done }
      (.other _ rfl rfl)
    have armed := ended.step (.quantizers (Vector.ofFn fun n => { s.cq[n] with recogniser := .waitDeassert }))
    exact ends_ite (fun _ => armed.raise _ _) armed
  · exact ends_unchanged

end Rows

/-! ## Every command -/

/-- What a command in a state may do beyond upkeep. -/
def scopeOf (c : Instr) (s : State) : Scope where
  host := c = .topUp ∨ c = .adjust ∨ c = .setLimits ∨ c = .close ∨ c = .rewrite
  opens a := s.claim = some (.openAccount a)
  frees i := c = .release ∨ s.isAccount i = false
  loads := c = .restoreLoad
  starts n :=
    c = .press n ∨ (c = .reconnect ∧ (s.cqAt n).config.reconnect = true)
      ∨ (c = .engageResult n ∧ ∃ e, (s.scAt n).engage = some e ∧ e.fromClosed = false)

/-- The commands that reset the part. -/
def Instr.resets : Instr → Bool
  | .powerOnReset _ _ | .pinReset _ _ | .softResetEffect _ => true
  | _ => false

/-- What any command can do: a chain of changes within its scope, or, of a reset, the reset of every block. -/
theorem exec_moves (c : Instr) (s : State) :
    Ends (exec c s) fun t =>
      Moves (scopeOf c s) s t ∨ (Instr.resets c = true ∧ ∃ kind array first, t = s.resetTo kind array first) := by
  have chain {r : Result} (h : Ends r (Moves (scopeOf c s) s)) :
      Ends r fun t => Moves (scopeOf c s) s t
        ∨ (Instr.resets c = true ∧ ∃ kind array first, t = s.resetTo kind array first) :=
    fun t ht => .inl (h t ht)
  cases c
  case powerOnReset cut first => exact ends_next (.inr ⟨rfl, _, _, _, rfl⟩)
  case pinReset cut first => exact ends_next (.inr ⟨rfl, _, _, _, rfl⟩)
  case softResetEffect first => exact ends_ite (fun _ => .inr ⟨rfl, _, _, _, rfl⟩) (.inl (.refl s))
  all_goals refine chain ?_
  case openAccount => exact execOpenAccount_moves fun _ claimed => claimed
  case close => exact execClose_moves (by simp [scopeOf])
  case release => exact execRelease_moves fun _ => .inl rfl
  case rewrite => exact execRewrite_moves (by simp [scopeOf])
  case discard => exact execDiscard_moves fun _ other => .inr other
  case topUp => exact execTopUp_moves (by simp [scopeOf])
  case adjust => exact execAdjust_moves (by simp [scopeOf])
  case setLimits => exact execSetLimits_moves (by simp [scopeOf])
  case restoreLoad => exact execRestoreLoad_moves rfl
  case press n => exact execPress_moves n (.inl rfl)
  case reconnect => exact execReconnect_moves fun n allowed => .inr (.inl ⟨rfl, allowed⟩)
  case engageResult n => exact execEngageResult_moves n fun e waits fromOpen => .inr (.inr ⟨rfl, e, waits, fromOpen⟩)
  case requestFrame e | badTypeFrame e | fetchFrame e | emptyFrame e | waitDeassertEnd e | timedOutFrameEnd e =>
    exact ends_link e
  case identify => exact execIdentify_moves
  case readDevice => exact execReadDevice_moves _
  case softReset => exact execSoftReset_moves
  case lookup => exact execLookup_moves
  case readAccount => exact execReadAccount_moves
  case survey => exact execSurvey_moves
  case setBand => exact execSetBand_moves
  case setPrice => exact execSetPrice_moves
  case setStanding => exact execSetStanding_moves
  case readTariff => exact execReadTariff_moves
  case commitTariffs => exact execCommitTariffs_moves
  case levy => exact execLevy_moves
  case cancelLevy => exact execCancelLevy_moves
  case configureChannel => exact execConfigureChannel_moves
  case readChannel => exact execReadChannel_moves _
  case billUnbilled => exact execBillUnbilled_moves
  case unbilledCountTake => exact execUnbilledCountTake_moves _
  case setHold => exact execSetHold_moves _
  case clearFault => exact execClearFault_moves
  case fetchAttention => exact execFetchAttention_moves
  case ackAttention => exact execAckAttention_moves
  case setAttentionMask => exact execSetAttentionMask_moves
  case gapTimerExpiry => exact execGapTimerExpiry_moves
  case requestTake => exact execRequestTake_moves
  case responseQueue => exact execResponseQueue_moves
  case pulseEvent => exact execPulseEvent_moves _
  case windowTimerExpiry => exact execWindowTimerExpiry_moves _
  case quantumDebit => exact execQuantumDebit_moves _
  case debitResult => exact execDebitResult_moves _
  case notice => exact execNotice_moves _
  case feedbackEvent => exact execFeedbackEvent_moves _ _
  case operationTimerExpiry => exact execOperationTimerExpiry_moves _
  case emergencyEngage => exact execEmergencyEngage_moves _
  case levyClaim => exact execLevyClaim_moves
  case levyResult => exact execLevyResult_moves
  case causeRaise => exact execCauseRaise_moves _
  case slotEntryRemoval => exact execSlotEntryRemoval_moves
  case dirtying => exact execDirtying_moves _
  case commitTake => exact execCommitTake_moves
  case snapshotClaim => exact execSnapshotClaim_moves
  case snapshotPart => exact execSnapshotPart_moves _
  case writeStart => exact execWriteStart_moves
  case writeCompletion => exact execWriteCompletion_moves _
  case pfwEvent => exact execPfwEvent_moves _
  case drainComplete => exact execDrainComplete_moves
  case stop => exact execStop_moves _
  case classifyCopies => exact execClassifyCopies_moves
  case loadSettingsAndTariff => exact execLoadSettingsAndTariff_moves
  case referenceConflicts => exact execReferenceConflicts_moves
  case occupancyConflicts => exact execOccupancyConflicts_moves
  case restorePromotion => exact execRestorePromotion_moves
  case restoreSummary => exact execRestoreSummary_moves
  case adopt => exact execAdopt_moves _
  case endOfRestore => exact execEndOfRestore_moves
  case pulseRecogniserEdge => exact execPulseRecogniserEdge_moves _ _
  case buttonRecogniserEdge => exact execButtonRecogniserEdge_moves _ _

end Sys2Proof.Machine
end

section
/-! Proofs about every step: each law of a block is kept by each kind of change, by a reset and by a count of the time
base, and so by every step. -/

set_option Elab.async false

namespace Sys2Proof.Machine

/-! ## Steps -/

/-- What every change and every reset keeps, every command keeps. -/
theorem exec_keeps {P : State → Prop} {c : Instr} {s t : State}
    (each : ∀ u v, Move (scopeOf c s) u v → P u → P v)
    (reset : Instr.resets c = true → ∀ kind array first, P (s.resetTo kind array first))
    (start : P s) (h : exec c s = .next t) : P t := by
  rcases exec_moves c s t h with moves | ⟨resets, kind, array, first, rfl⟩
  · exact moves.keeps each start
  · exact reset resets kind array first

/-- What every change, every reset and every count keeps, whatever commands wait, every step keeps. -/
theorem step_keeps {P : State → Prop} (waiting : ∀ s rest, P s → P { s with pending := rest })
    (each : ∀ k u v, Move k u v → P u → P v) (reset : ∀ s kind array first, P (State.resetTo s kind array first))
    (tick : ∀ s, P s → P s.tick) {s t : State} (start : P s) (h : step s = .next t) : P t := by
  have run (c : Instr) {u : State} (hu : P u) (hc : exec c u = .next t) : P t :=
    exec_keeps (each _) (fun _ => reset u) hu hc
  unfold step at h
  split at h
  · exact run _ (waiting s _ start) h
  · unfold idleStep at h
    split at h
    · exact run _ start h
    · obtain rfl := Host.Outcome.next.inj h
      exact tick s start

/-! ## The queue of waiting commands -/

theorem State.takeRequest_pending (s : State) : s.takeRequest.pending = s.pending := by
  rcases s.takeRequest_cases with ⟨same, -⟩ | ⟨r, rest, -, -, -, -, taken⟩
  · rw [same]
  · rw [taken]

theorem Move.pending {k : Scope} {u v : State} (m : Move k u v) : v.pending = u.pending := by
  cases m with
  | requestTaken => exact u.takeRequest_pending
  | _ => rfl

/-- No command touches the commands that wait behind it. -/
theorem exec_pending {c : Instr} {s t : State} (h : exec c s = .next t) : t.pending = s.pending :=
  exec_keeps (P := fun u => u.pending = s.pending) (fun _ _ m start => m.pending.trans start) (fun _ _ _ _ => rfl) rfl h

/-! ## The queues of the link -/

theorem Move.queueLaw {k : Scope} {u v : State} (m : Move k u v) (law : u.QueueLaw) : v.QueueLaw := by
  obtain ⟨requests, responses, served⟩ := law
  cases m with
  | link l change =>
    cases change with
    | frame _ requestsKept responsesKept =>
      rw [← requestsKept] at requests
      rw [← responsesKept] at responses served
      exact ⟨requests, responses, served⟩
    | admitted r room =>
      refine ⟨?_, responses, served⟩
      rw [List.length_append]
      exact room
    | fetched =>
      refine ⟨requests, ?_, fun serving => ?_⟩
      · rw [List.length_tail]
        omega
      · have := served serving
        rw [List.length_tail]
        omega
  | phase p =>
    refine ⟨requests, responses, fun serving => served ?_⟩
    rwa [State.setPhase_re, Option.isSome_map] at serving
  | requestTaken =>
    rcases u.takeRequest_cases with ⟨same, -⟩ | ⟨r, rest, -, queue, room, -, taken⟩
    · rw [same]
      exact ⟨requests, responses, served⟩
    · rw [taken]
      rw [queue, List.length_cons] at requests
      exact ⟨Nat.le_of_succ_le requests, responses, fun _ => room⟩
  | responseQueued r serving =>
    refine ⟨requests, ?_, nofun⟩
    have := served serving
    rw [List.length_append]
    exact this
  | requestDropped => exact ⟨requests, responses, nofun⟩
  | _ => exact ⟨requests, responses, served⟩

theorem State.resetTo_queueLaw (s : State) (kind : ResetKind) (array : PerItem Copies) (first : FirstSample) :
    (s.resetTo kind array first).QueueLaw := ⟨Nat.zero_le 4, Nat.zero_le 4, nofun⟩

/-- Settles O4: the changes of the link keep its queues within four entries, and the Request Engine takes a request only
while its response has a place. -/
theorem stepKeepsQueueLaw : Obligations.StepKeepsQueueLaw := by
  unfold Obligations.StepKeepsQueueLaw
  intro s t law h
  exact step_keeps (fun _ _ law => law) (fun _ _ _ m => m.queueLaw) State.resetTo_queueLaw (fun _ law => law) law h

/-! ## The attention list -/

/-- The law of one entry (R149): one or more causes, all of its subject's kind. -/
def Entry.Lawful (e : Entry) : Prop := e.causes ≠ 0#8 ∧ e.causes &&& undefinedCauses e.subject = 0#8

/-- A cause joins a set of its subject's kind (R150). -/
theorem setWith_raiseBit (r : Raise) (causes : BitVec 8) (kind : causes &&& undefinedCauses (raiseSubject r) = 0#8) :
    setWith causes (raiseBit r) true ≠ 0#8
      ∧ setWith causes (raiseBit r) true &&& undefinedCauses (raiseSubject r) = 0#8 := by
  have bit : 1#8 <<< raiseBit r ≠ 0#8 ∧ 1#8 <<< raiseBit r &&& undefinedCauses (raiseSubject r) = 0#8 := by
    cases r with
    | slot i c =>
      have lawful (c : SlotCause) : 1#8 <<< slotCauseBit c ≠ 0#8
          ∧ 1#8 <<< slotCauseBit c &&& undefinedCauses (.slot 0) = 0#8 := by cases c <;> decide
      exact lawful c
    | channel n c =>
      have lawful (c : ChannelCause) : 1#8 <<< channelCauseBit c ≠ 0#8
          ∧ 1#8 <<< channelCauseBit c &&& undefinedCauses (.channel 0) = 0#8 := by cases c <;> decide
      exact lawful c
    | device c => cases c <;> decide
  have joined : setWith causes (raiseBit r) true = causes ||| 1#8 <<< raiseBit r := rfl
  rw [joined]
  refine ⟨fun empty => bit.1 (BitVec.or_eq_zero_iff.mp empty).2, ?_⟩
  rw [BitVec.and_comm, BitVec.and_or_distrib_left, BitVec.and_comm, kind, BitVec.and_comm, bit.2]
  rfl

theorem recordCause_lawful (r : Raise) {list : List Entry} (law : ∀ e ∈ list, e.Lawful) :
    ∀ e ∈ recordCause (raiseSubject r) (raiseBit r) list, e.Lawful := by
  induction list with
  | nil =>
    intro e he
    obtain rfl := List.mem_singleton.mp he
    exact setWith_raiseBit r 0#8 BitVec.zero_and
  | cons f rest ih =>
    obtain ⟨head, tail⟩ := List.forall_mem_cons.mp law
    unfold recordCause
    split
    case isTrue same =>
      refine List.forall_mem_cons.mpr ⟨?_, tail⟩
      obtain ⟨-, kind⟩ := head
      rw [same] at kind
      have joined := setWith_raiseBit r f.causes kind
      rw [← same] at joined
      exact joined
    case isFalse => exact List.forall_mem_cons.mpr ⟨head, ih tail⟩

theorem acknowledge_lawful (x : Subject) (causes : BitVec 8) {list : List Entry} (law : ∀ e ∈ list, e.Lawful) :
    ∀ e ∈ acknowledge x causes list, e.Lawful := by
  induction list with
  | nil => exact law
  | cons f rest ih =>
    obtain ⟨head, tail⟩ := List.forall_mem_cons.mp law
    unfold acknowledge
    split_ifs with same emptied
    · exact tail
    · refine List.forall_mem_cons.mpr ⟨⟨emptied, ?_⟩, tail⟩
      have kind : f.causes &&& undefinedCauses f.subject = 0#8 := head.2
      show f.causes &&& ~~~causes &&& undefinedCauses f.subject = 0#8
      rw [BitVec.and_assoc, BitVec.and_comm (~~~causes), ← BitVec.and_assoc, kind, BitVec.zero_and]
    · exact List.forall_mem_cons.mpr ⟨head, ih tail⟩

theorem acknowledge_subjects_sublist (x : Subject) (causes : BitVec 8) (list : List Entry) :
    ((acknowledge x causes list).map (·.subject)).Sublist (list.map (·.subject)) := by
  induction list with
  | nil => exact .refl _
  | cons f rest ih =>
    unfold acknowledge
    split_ifs
    · exact List.sublist_cons_self _ _
    · exact .refl _
    · exact ih.cons_cons _

theorem recordCause_subjects_nodup (x : Subject) (bit : Nat) {list : List Entry}
    (law : (list.map (·.subject)).Nodup) : ((recordCause x bit list).map (·.subject)).Nodup := by
  rw [recordCause_subjects]
  split
  case isTrue => exact law
  case isFalse fresh => exact List.nodup_append'.mpr ⟨law, List.nodup_singleton x, by simpa using fresh⟩

/-- The law of the Attention Unit's list and line (R149, R152). -/
def Attention.Lawful (a : Attention) : Prop :=
  (a.list.map (·.subject)).Nodup ∧ (∀ e ∈ a.list, e.Lawful) ∧ a.attn = !a.list.isEmpty

theorem State.attentionLaw_iff (s : State) : s.AttentionLaw ↔ s.au.Lawful := Iff.rfl

theorem AttentionChange.lawful {a b : Attention} (change : AttentionChange a b) (law : a.Lawful) : b.Lawful := by
  obtain ⟨subjects, entries, line⟩ := law
  cases change with
  | mail mask inbox => exact ⟨subjects, entries, line⟩
  | raise r =>
    unfold Attention.takeRaise
    split
    · exact ⟨subjects, entries, line⟩
    · exact ⟨recordCause_subjects_nodup _ _ subjects, recordCause_lawful r entries, rfl⟩
  | removal i =>
    exact ⟨subjects.sublist (List.filter_sublist.map _), fun e he => entries e (List.mem_of_mem_filter he), rfl⟩
  | acknowledged x causes =>
    exact ⟨subjects.sublist (acknowledge_subjects_sublist x causes a.list), acknowledge_lawful x causes entries, rfl⟩

theorem Move.attentionLaw {k : Scope} {u v : State} (m : Move k u v) (law : u.AttentionLaw) : v.AttentionLaw := by
  cases m with
  | attention a change => exact change.lawful law
  | requestTaken =>
    rcases u.takeRequest_cases with ⟨same, -⟩ | ⟨r, rest, -, -, -, -, taken⟩
    · rw [same]
      exact law
    · rw [taken]
      exact law
  | _ => exact law

theorem Attention.reset_lawful : Attention.reset.Lawful := ⟨.nil, nofun, rfl⟩

/-- Settles O5: a cause recorded, a removal and an acknowledgement keep the list lawful, and ATTN follows the list. -/
theorem stepKeepsAttentionLaw : Obligations.StepKeepsAttentionLaw := by
  unfold Obligations.StepKeepsAttentionLaw
  intro s t law h
  exact step_keeps (fun _ _ law => law) (fun _ _ _ m => m.attentionLaw) (fun _ _ _ _ => Attention.reset_lawful)
    (fun _ law => law) law h

end Sys2Proof.Machine
end

section
/-! Proofs about every step: the drive line, the commit queue, the integrity words, the money fields, the versions and
the beginnings of a closing. -/

set_option Elab.async false

namespace Sys2Proof.Machine

/-! ## The drive line -/

theorem SupplyChange.driveLaw {starts : Prop} {c d : Supply} (change : SupplyChange starts c d) (law : c.DriveLaw) :
    d.DriveLaw := by
  unfold Supply.DriveLaw at law ⊢
  cases change with
  | kept state drive timer => rwa [state, drive, timer]
  | opening _ state drive timer => rw [state]; exact ⟨drive, timer⟩
  | closing _ state drive timer => rw [state]; exact ⟨drive, timer⟩
  | fault kind state drive timer => rw [state]; exact ⟨drive, timer⟩
  | confirmedOpen start state drive timer =>
    rw [start] at law
    rw [state]
    exact ⟨drive.trans law.1, timer⟩
  | confirmedClosed start state drive timer =>
    rw [start] at law
    rw [state]
    exact ⟨drive.trans law.1, timer⟩
  | opened start state drive timer =>
    rw [state]
    have idle : c.drive = false ∧ c.timer = none := by
      rcases start with armed | faulty | ⟨adopting, down⟩
      · rwa [armed] at law
      · cases found : c.state <;> simp_all [isFault]
      · rw [adopting] at law
        exact ⟨down, law⟩
    exact ⟨drive.trans idle.1, timer.trans idle.2⟩
  | armed start state drive timer =>
    rw [start] at law
    rw [state]
    exact ⟨drive.trans law.1, timer.trans law.2⟩
  | closed start up state drive timer =>
    rw [start] at law
    rw [state]
    exact ⟨drive.trans up, timer.trans law⟩

theorem Move.driveLaw {k : Scope} {u v : State} (m : Move k u v) (law : u.DriveLaw) : v.DriveLaw := by
  cases m with
  | supplies cs change => exact fun n => (change n).driveLaw (law n)
  | requestTaken =>
    rcases u.takeRequest_cases with ⟨same, -⟩ | ⟨r, rest, -, -, -, -, taken⟩
    · rw [same]
      exact law
    · rw [taken]
      exact law
  | _ => exact law

theorem State.resetTo_scAt (s : State) (kind : ResetKind) (array : PerItem Copies) (first : FirstSample) (n : Channel) :
    (s.resetTo kind array first).scAt n
      = .reset (keptDrive kind (s.scAt n).drive) (setHas first.fbk n.val) := by
  simp [State.resetTo, State.scAt]

theorem State.resetTo_driveLaw (s : State) (kind : ResetKind) (array : PerItem Copies) (first : FirstSample) :
    (s.resetTo kind array first).DriveLaw := by
  intro n
  rw [State.resetTo_scAt]
  rfl

theorem State.tick_scAt (s : State) (n : Channel) :
    s.tick.scAt n = (s.scAt n).tick (setHas s.nextSample.fbk n.val) := by
  simp [State.tick, State.scAt]

/-- A count leaves the state and the drive line, and a timer runs on as one. -/
theorem Supply.tick_driveLaw {c : Supply} (fbk : Bool) (law : c.DriveLaw) : (c.tick fbk).DriveLaw := by
  unfold Supply.DriveLaw at law ⊢
  have state : (c.tick fbk).state = c.state := rfl
  have drive : (c.tick fbk).drive = c.drive := rfl
  have timer : (c.tick fbk).timer = c.timer.map countDown := rfl
  rw [state, drive, timer, Option.isSome_map, Option.map_eq_none_iff]
  exact law

theorem State.tick_driveLaw (s : State) (law : s.DriveLaw) : s.tick.DriveLaw := by
  intro n
  rw [State.tick_scAt]
  exact Supply.tick_driveLaw _ (law n)

/-- Settles O6: each change of a controller moves its state, its drive line and its timer together. -/
theorem stepKeepsDriveLaw : Obligations.StepKeepsDriveLaw := by
  unfold Obligations.StepKeepsDriveLaw
  intro s t law h
  exact step_keeps (fun _ _ law => law) (fun _ _ _ m => m.driveLaw) State.resetTo_driveLaw State.tick_driveLaw law h

/-! ## The commit queue -/

/-- The law of the commit queue and the barred set (R126, R127). -/
def Retention.Lawful (r : Retention) : Prop := r.queue.Nodup ∧ ∀ x ∈ r.queue, r.isBarred x = false

/-- What is barred is read off the barred set. -/
theorem Retention.isBarred_congr {q r : Retention} (h : q.barred = r.barred) (x : Item) : q.isBarred x = r.isBarred x := by
  cases x <;> simp [Retention.isBarred, h]

/-- A bar touches one account item alone. -/
theorem Retention.isBarred_set {q r : Retention} {i : Slot} {b : Bool} (h : q.barred = r.barred.set i b) (x : Item) :
    q.isBarred x = if x = .account i then b else r.isBarred x := by
  cases x with
  | account j =>
    by_cases same : i = j
    · subst same
      simp [Retention.isBarred, h]
    · have other : (i : Nat) ≠ j := fun e => same (Fin.ext e)
      have apart : j ≠ i := fun e => same e.symm
      simp [Retention.isBarred, h, other, apart]
  | tariff | settings => simp [Retention.isBarred]

theorem Retention.Lawful.congr {q r : Retention} (law : r.Lawful) (queue : q.queue = r.queue)
    (barred : q.barred = r.barred) : q.Lawful := by
  refine ⟨by rw [queue]; exact law.1, fun x hx => ?_⟩
  rw [Retention.isBarred_congr barred]
  exact law.2 x (queue ▸ hx)

theorem RetentionChange.lawful {r q : Retention} (change : RetentionChange r q) (law : r.Lawful) : q.Lawful := by
  obtain ⟨once, unbarred⟩ := law
  cases change with
  | other q queue barred => exact Retention.Lawful.congr ⟨once, unbarred⟩ queue barred
  | dirtied x =>
    rcases r.takeDirtying_cases x with ⟨-, same⟩ | ⟨allowed, absent, joined⟩
    · rw [same]
      exact ⟨once, unbarred⟩
    · rw [joined]
      refine ⟨List.nodup_append'.mpr ⟨once, List.nodup_singleton x, by simpa using absent⟩, fun y hy => ?_⟩
      refine (Retention.isBarred_congr (r := r) rfl y).trans ?_
      rcases List.mem_append.mp hy with queued | new
      · exact unbarred y queued
      · rw [List.mem_singleton.mp new]
        exact allowed
  | taken =>
    rcases r.commitTake_cases with same | ⟨x, rest, -, queue, -, -, taken⟩
    · rw [same]
      exact ⟨once, unbarred⟩
    · rw [taken]
      rw [queue] at once unbarred
      exact ⟨once.of_cons, fun y hy => unbarred y (List.mem_cons_of_mem x hy)⟩
  | barred i =>
    obtain ⟨queue, set⟩ := r.bar_queue i
    refine ⟨by rw [queue]; exact once.erase _, fun x hx => ?_⟩
    rw [queue, once.mem_erase_iff] at hx
    rw [Retention.isBarred_set set, if_neg hx.1]
    exact unbarred x hx.2
  | lifted i =>
    refine ⟨once, fun x hx => ?_⟩
    rw [Retention.isBarred_set (r := r) (b := false) rfl, unbarred x hx, ite_self]

theorem Move.commitLaw {k : Scope} {u v : State} (m : Move k u v) (law : u.CommitLaw) : v.CommitLaw := by
  cases m with
  | retention r change => exact change.lawful law
  | requestTaken =>
    rcases u.takeRequest_cases with ⟨same, -⟩ | ⟨r, rest, -, -, -, -, taken⟩
    · rw [same]
      exact law
    · rw [taken]
      exact law
  | _ => exact law

/-- Settles O7: an item joins the queue where it is neither in it nor barred, and a bar takes its item out. -/
theorem stepKeepsCommitLaw : Obligations.StepKeepsCommitLaw := by
  unfold Obligations.StepKeepsCommitLaw
  intro s t law h
  exact step_keeps (fun _ _ law => law) (fun _ _ _ m => m.commitLaw) (fun _ _ _ _ => ⟨.nil, nofun⟩)
    (fun _ law => Retention.Lawful.congr law rfl rfl) law h

/-! ## The integrity words -/

/-- The check reads the generation, the life state, the body and the word. -/
theorem SlotState.intact_congr {x y : SlotState} (life : y.life = x.life) (generation : y.generation = x.generation)
    (body : y.body = x.body) (word : y.word = x.word) (i : Slot) : y.intact i = x.intact i := by
  simp only [SlotState.intact, wordOf, covered, life, generation, body, word]

theorem Move.integrityLaw {k : Scope} {u v : State} (m : Move k u v) (law : u.IntegrityLaw) : v.IntegrityLaw := by
  cases m with
  | record i x change =>
    intro j
    rw [State.intactAt, State.putRecord_slotAt]
    split
    case isTrue same =>
      subst same
      exact x.sealed_intact i
    case isFalse => exact law j
  | store st kept =>
    intro j
    obtain ⟨life, generation, body, word⟩ := kept j
    exact (SlotState.intact_congr life generation body word j).trans (law j)
  | requestTaken =>
    rcases u.takeRequest_cases with ⟨same, -⟩ | ⟨r, rest, -, -, -, -, taken⟩
    · rw [same]
      exact law
    · rw [taken]
      exact law
  | _ => exact law

theorem Store.reset_slotAt (i : Slot) : Store.reset.slots[i] = freeForm i 0 := by
  simp [Store.reset]

theorem State.resetTo_slotAt (s : State) (kind : ResetKind) (array : PerItem Copies) (first : FirstSample) (i : Slot) :
    (s.resetTo kind array first).slotAt i = freeForm i 0 := Store.reset_slotAt i

theorem State.resetTo_integrityLaw (s : State) (kind : ResetKind) (array : PerItem Copies) (first : FirstSample) :
    (s.resetTo kind array first).IntegrityLaw := by
  intro i
  rw [State.intactAt, State.resetTo_slotAt]
  exact freeForm_intact i 0

/-- Settles O8: every record written is written with its word, and no other change touches what the word covers. -/
theorem stepKeepsIntegrityLaw : Obligations.StepKeepsIntegrityLaw := by
  unfold Obligations.StepKeepsIntegrityLaw
  intro s t law h
  exact step_keeps (fun _ _ law => law) (fun _ _ _ m => m.integrityLaw) State.resetTo_integrityLaw (fun _ law => law)
    law h

end Sys2Proof.Machine
end

section
/-! Proofs about every command: the money fields, the versions and the beginnings of a closing. -/

set_option Elab.async false

namespace Sys2Proof.Machine

/-! ## The money fields -/

/-- The law of the money fields of one record (R43, R45). -/
def Body.Sound (b : Body) : Prop := b.Conserved ∧ balMin ≤ b.balance.toInt ∧ b.balance.toInt ≤ balMax

/-- The life states of an account that claims act on (R6). -/
def isAccountLife (l : Life) : Prop := l = .waiting ∨ l = .live ∨ l = .settled

/-- A value within the bounds of a balance stands as it is in the 32 bits of the field. -/
theorem toInt_ofInt_of_balance {v : Int} (above : balMin ≤ v) (below : v ≤ balMax) : (BitVec.ofInt 32 v).toInt = v := by
  unfold balMin at above
  unfold balMax at below
  rw [BitVec.toInt_ofInt, Int.bmod_def]
  omega

/-- SATURATED is bit 0 of the flags, and a clamp sets it. -/
theorem Body.saturated_of_set {b : Body} {flags : Byte} (h : b.flags = flags ||| 1#8) : b.saturated = true := by
  rw [Body.saturated, h]
  simp

/-- A charge keeps the money fields (R46): it moves balance and total alike, or it clamps and sets SATURATED. -/
theorem Body.charged_sound {b : Body} (amount quanta : Nat) (law : b.Sound) : (b.charged amount quanta).Sound := by
  obtain ⟨conserved, above, below⟩ := law
  have balance : (b.charged amount quanta).balance.toInt = max (b.balance.toInt - amount) balMin :=
    toInt_ofInt_of_balance (le_max_right _ _) (max_le (by omega) (by decide))
  refine ⟨fun clear => ?_, by rw [balance]; exact le_max_right _ _,
    by rw [balance]; exact max_le (by omega) (by decide)⟩
  by_cases clamps : b.clamps amount = true
  · have set : (b.charged amount quanta).flags = b.flags ||| 1#8 := if_pos clamps
    rw [Body.saturated_of_set set] at clear
    exact Bool.noConfusion clear
  · have flags : (b.charged amount quanta).flags = b.flags := if_neg clamps
    have unclamped : b.debited.toNat + amount ≤ totalMax ∧ balMin ≤ b.balance.toInt - amount := by
      simpa [Body.clamps] using clamps
    have total : (b.charged amount quanta).debited.toNat = b.debited.toNat + amount := by
      show (BitVec.ofNat 48 (min (b.debited.toNat + amount) totalMax)).toNat = _
      rw [min_eq_left unclamped.1, BitVec.toNat_ofNat]
      exact Nat.mod_eq_of_lt (Nat.lt_succ_of_le unclamped.1)
    have before := conserved (by rw [Body.saturated, ← flags]; exact clear)
    have opening : (b.charged amount quanta).opening = b.opening := rfl
    have credited : (b.charged amount quanta).credited = b.credited := rfl
    rw [balance, opening, credited, total, max_eq_left unclamped.2]
    push_cast
    omega

/-- A top-up that fits keeps the money fields (R57). -/
theorem Body.toppedUp_sound {b : Body} {voucher amount : BitVec 32} (fits : b.topUpFits amount = true) (law : b.Sound) :
    (b.toppedUp voucher amount).Sound := by
  obtain ⟨conserved, -, -⟩ := law
  obtain ⟨above, below, room⟩ := (Body.topUpFits_iff b amount).mp fits
  have written := Body.toppedUp_eq b voucher amount
  have balance : (b.toppedUp voucher amount).balance.toInt = b.balance.toInt + amount.toNat := by
    rw [written]
    exact toInt_ofInt_of_balance above below
  have total : (b.toppedUp voucher amount).credited.toNat = b.credited.toNat + amount.toNat := by
    rw [written]
    exact Nat.mod_eq_of_lt (Nat.lt_succ_of_le room)
  have opening : (b.toppedUp voucher amount).opening = b.opening := rfl
  have debited : (b.toppedUp voucher amount).debited = b.debited := rfl
  refine ⟨fun clear => ?_, by rw [balance]; exact above, by rw [balance]; exact below⟩
  have before := conserved clear
  rw [balance, total, opening, debited]
  push_cast
  omega

theorem Body.adjustFits_iff (b : Body) (amount : BitVec 32) :
    b.adjustFits amount = true ↔
      balMin ≤ b.balance.toInt + amount.toInt ∧ b.balance.toInt + amount.toInt ≤ balMax
        ∧ b.credited.toNat + amount.toInt ≤ totalMax ∧ b.debited.toNat - amount.toInt ≤ totalMax := by
  simp only [Body.adjustFits, Bool.and_eq_true, decide_eq_true_iff, and_assoc]

/-- The balance moves by the amount where the sum is within its bounds (R59). -/
theorem toInt_add_of_balance {x y : BitVec 32} (above : balMin ≤ x.toInt + y.toInt) (below : x.toInt + y.toInt ≤ balMax) :
    (x + y).toInt = x.toInt + y.toInt := by
  rw [← BitVec.ofInt_toInt (x := x + y), BitVec.toInt_add, BitVec.toInt_ofInt, Int.bmod_bmod, ← BitVec.toInt_ofInt]
  exact toInt_ofInt_of_balance above below

/-- A total moves by what is added where the sum is within its range (R59). -/
theorem toNat_add_ofInt_of_total {x : BitVec 48} {v : Int} (positive : 0 ≤ v) (room : x.toNat + v ≤ totalMax) :
    ((x + BitVec.ofInt 48 v).toNat : Int) = x.toNat + v := by
  obtain ⟨n, rfl⟩ := Int.eq_ofNat_of_zero_le positive
  unfold totalMax at room
  rw [BitVec.ofInt_natCast, BitVec.toNat_add, BitVec.toNat_ofNat]
  omega

/-- An adjustment that fits keeps the money fields (R59). -/
theorem Body.adjusted_sound {b : Body} {amount : BitVec 32} (fits : b.adjustFits amount = true) (law : b.Sound) :
    (b.adjusted amount).Sound := by
  obtain ⟨conserved, -, -⟩ := law
  obtain ⟨above, below, creditRoom, debitRoom⟩ := (Body.adjustFits_iff b amount).mp fits
  have balance : (b.adjusted amount).balance.toInt = b.balance.toInt + amount.toInt := toInt_add_of_balance above below
  have moved : ((b.adjusted amount).credited.toNat : Int) - (b.adjusted amount).debited.toNat
      = b.credited.toNat - b.debited.toNat + amount.toInt := by
    unfold Body.adjusted
    dsimp only
    split_ifs with up down down
    · omega
    · rw [toNat_add_ofInt_of_total (by omega) creditRoom]
      omega
    · rw [toNat_add_ofInt_of_total (by omega) (by omega)]
      omega
    · omega
  have opening : (b.adjusted amount).opening = b.opening := rfl
  refine ⟨fun clear => ?_, by rw [balance]; exact above, by rw [balance]; exact below⟩
  have before := conserved clear
  rw [balance, opening]
  omega

/-- A REWRITE computes the opening balance from what it keeps (R36). -/
theorem rewrittenBody_sound {b : Body} (a : RewriteArgs) (life result : Life) (fits : b.reconcilable = true) :
    (rewrittenBody b a life result).Sound := by
  have limits : balMin ≤ b.balance.toInt ∧ b.balance.toInt ≤ balMax ∧ -100000000 ≤ b.computedOpening
      ∧ b.computedOpening ≤ 100000000 := by
    simpa only [Body.reconcilable, Bool.and_eq_true, decide_eq_true_iff, and_assoc] using fits
  obtain ⟨above, below, low, high⟩ := limits
  refine ⟨fun _ => ?_, above, below⟩
  have opening : (rewrittenBody b a life result).opening.toInt = b.computedOpening :=
    toInt_ofInt_of_balance (low.trans' (by decide)) (high.trans (by decide))
  have balance : (rewrittenBody b a life result).balance = b.balance := rfl
  have credited : (rewrittenBody b a life result).credited = b.credited := rfl
  have debited : (rewrittenBody b a life result).debited = b.debited := rfl
  rw [opening, balance, credited, debited, Body.computedOpening]
  omega

theorem BodyChange.sound {k : Scope} {b c : Body} (change : BodyChange k b c) (law : b.Sound) : c.Sound := by
  cases change with
  | charged levy amount quanta => exact Body.charged_sound (b := { b with lastLevy := levy }) amount quanta law
  | engaged e => exact law
  | toppedUp voucher amount _ fits => exact Body.toppedUp_sound fits law
  | adjusted amount _ fits => exact Body.adjusted_sound fits law
  | limited a => exact law

theorem openBody_sound (a : OpenArgs) (serial : BitVec 32) (credit : Byte)
    (range : -100000000 ≤ a.opening.toInt ∧ a.opening.toInt ≤ 100000000) :
    Body.Sound { openBody a serial with credit := credit } := by
  refine ⟨fun _ => ?_, range.1.trans' (by decide), range.2.trans (by decide)⟩
  show a.opening.toInt = a.opening.toInt + (0#48).toNat - (0#48).toNat
  simp

theorem hasReference_of_isAccountLife {l : Life} (h : isAccountLife l) : hasReference l = true := by
  rcases h with rfl | rfl | rfl <;> rfl

theorem isAccountLife_of_unquarantined {l : Life} (named : hasReference l = true) (free : isQuarantined l = false) :
    isAccountLife l := by
  cases l <;> simp_all [isAccountLife, hasReference, isQuarantined]

/-- Every change of a record but a load from the array keeps the money fields of an account. -/
theorem RecordChange.sound {k : Scope} {i : Slot} {x y : SlotState} (change : RecordChange k i x y) (noLoad : ¬k.loads)
    (range : ∀ a, k.opens a → -100000000 ≤ a.opening.toInt ∧ a.opening.toInt ≤ 100000000)
    (law : isAccountLife x.life → x.body.Sound) : isAccountLife y.life → y.body.Sound := by
  intro account
  cases change with
  | quarantined held | lost g | free | conflict closing | freed => simp [isAccountLife, lostRecord, freeRecord] at account
  | renewed => exact law account
  | promoted waiting => exact law (.inl waiting)
  | concluded b rising change =>
    have sound : b.Sound := change.sound (law account)
    show Body.Sound (if x.life = .live then b.evaluated rising else b.stepped rising)
    split <;> exact sound
  | opened a serial g credit life opens => exact openBody_sound a serial credit (range a opens)
  | closed _ named unquarantined => exact law (isAccountLife_of_unquarantined named unquarantined)
  | rewritten a result _ fits =>
    have sound := rewrittenBody_sound a x.life result fits
    show Body.Sound (if result = .live then (rewrittenBody x.body a x.life result).evaluated false
      else rewrittenBody x.body a x.life result)
    split <;> exact sound
  | loaded y loads => exact absurd loads noLoad

theorem State.moneyLaw_iff (s : State) :
    s.MoneyLaw ↔ ∀ i, isAccountLife (s.slotAt i).life → (s.slotAt i).body.Sound := Iff.rfl

theorem Move.moneyLaw {k : Scope} {u v : State} (m : Move k u v) (noLoad : ¬k.loads)
    (range : ∀ a, k.opens a → -100000000 ≤ a.opening.toInt ∧ a.opening.toInt ≤ 100000000) (law : u.MoneyLaw) :
    v.MoneyLaw := by
  rw [State.moneyLaw_iff] at law ⊢
  cases m with
  | record i x change =>
    intro j
    rw [State.putRecord_slotAt]
    split
    case isTrue same =>
      subst same
      rw [SlotState.sealed_life, SlotState.sealed_body]
      exact change.sound noLoad range (law i)
    case isFalse => exact law j
  | store st kept =>
    intro j
    obtain ⟨life, -, body, -⟩ := kept j
    show isAccountLife st.slots[j].life → st.slots[j].body.Sound
    rw [life, body]
    exact law j
  | requestTaken =>
    rcases u.takeRequest_cases with ⟨same, -⟩ | ⟨r, rest, -, -, -, -, taken⟩
    · rw [same]
      exact law
    · rw [taken]
      exact law
  | _ => exact law

/-- After a reset there is no account (R22). -/
theorem State.resetTo_lifeAt (s : State) (kind : ResetKind) (array : PerItem Copies) (first : FirstSample) (i : Slot) :
    (s.resetTo kind array first).lifeAt i = .free := by
  rw [State.lifeAt, State.resetTo_slotAt]
  rfl

theorem State.resetTo_moneyLaw (s : State) (kind : ResetKind) (array : PerItem Copies) (first : FirstSample) :
    (s.resetTo kind array first).MoneyLaw := by
  intro i account
  rw [State.resetTo_lifeAt] at account
  simp at account

/-- Settles O10: a charge, a credit, an adjustment and a REWRITE move the balance with its totals, an OPEN begins at
its opening balance, and no other change touches the money fields of an account. -/
theorem commandsKeepMoneyLaw : Obligations.CommandsKeepMoneyLaw := by
  unfold Obligations.CommandsKeepMoneyLaw
  intro c s t noLoad range law h
  exact exec_keeps (P := State.MoneyLaw) (fun _ _ m => m.moneyLaw noLoad range)
    (fun _ => s.resetTo_moneyLaw) law h

/-! ## The versions -/

/-- A record with a reference and a given version (R6). -/
def SlotState.HoldsVersion (x : SlotState) (version : BitVec 16) : Prop :=
  hasReference x.life = true ∧ x.body.version = version

theorem BodyChange.version {k : Scope} {b c : Body} (change : BodyChange k b c) (noHost : ¬k.host) :
    c.version = b.version := by
  cases change with
  | charged | engaged => rfl
  | toppedUp _ _ host | adjusted _ host | limited _ host => exact absurd host noHost

theorem RecordChange.holdsVersion {k : Scope} {i : Slot} {x y : SlotState} {version : BitVec 16}
    (change : RecordChange k i x y) (noHost : ¬k.host) (noFree : ¬k.frees i) (noLoad : ¬k.loads)
    (held : x.HoldsVersion version) : y.HoldsVersion version := by
  obtain ⟨named, same⟩ := held
  cases change with
  | quarantined | conflict => exact ⟨rfl, same⟩
  | renewed => exact ⟨named, same⟩
  | lost _ life => simp [life, hasReference] at named
  | free life => simp [life, hasReference] at named
  | promoted => exact ⟨rfl, same⟩
  | concluded b rising change =>
    refine ⟨named, ?_⟩
    have unmoved := (change.version noHost).trans same
    show Body.version (if x.life = .live then b.evaluated rising else b.stepped rising) = version
    split <;> exact unmoved
  | opened _ _ _ _ _ _ life => simp [life, hasReference] at named
  | closed host | rewritten _ _ host => exact absurd host noHost
  | freed frees => exact absurd frees noFree
  | loaded _ loads => exact absurd loads noLoad

theorem SlotState.HoldsVersion.sealed {x : SlotState} {version : BitVec 16} (h : x.HoldsVersion version) (i : Slot) :
    (x.sealed i).HoldsVersion version := by
  rwa [SlotState.HoldsVersion, SlotState.sealed_life, SlotState.sealed_body]

theorem Move.holdsVersion {k : Scope} {u v : State} (m : Move k u v) {i : Slot} {version : BitVec 16}
    (noHost : ¬k.host) (noFree : ¬k.frees i) (noLoad : ¬k.loads) (held : (u.slotAt i).HoldsVersion version) :
    (v.slotAt i).HoldsVersion version := by
  cases m with
  | record j x change =>
    rw [State.putRecord_slotAt]
    split
    case isTrue same =>
      subst same
      exact (change.holdsVersion noHost noFree noLoad held).sealed j
    case isFalse => exact held
  | store st kept =>
    obtain ⟨life, -, body, -⟩ := kept i
    show hasReference st.slots[i].life = true ∧ st.slots[i].body.version = version
    rw [life, body]
    exact held
  | requestTaken =>
    rcases u.takeRequest_cases with ⟨same, -⟩ | ⟨r, rest, -, -, -, -, taken⟩
    · rw [same]
      exact held
    · rw [taken]
      exact held
  | _ => exact held

theorem State.isAccount_of_life {s : State} {i : Slot} (h : isAccountLife (s.lifeAt i)) : s.isAccount i = true := by
  rcases h with life | life | life <;> simp [State.isAccount, life]

/-- Settles O11: outside the five requests no change of a record that stays with its account moves its version. -/
theorem versionsCountHostChanges : Obligations.VersionsCountHostChanges := by
  unfold Obligations.VersionsCountHostChanges
  intro c s t i h account noTopUp noAdjust noLimits noClose noRewrite noRelease noLoad noReset
  have noHost : ¬(scopeOf c s).host := by simp [scopeOf, *]
  have noFree : ¬(scopeOf c s).frees i := by simp [scopeOf, noRelease, State.isAccount_of_life account]
  have unreset : Instr.resets c = true → False := by
    intro resets
    cases c with
    | powerOnReset cut first | pinReset cut first => simp at noReset
    | softResetEffect first => simpa using noReset .untouched first
    | _ => exact Bool.noConfusion resets
  have held := exec_keeps (P := fun u => (u.slotAt i).HoldsVersion (s.bodyAt i).version)
    (fun _ _ m => m.holdsVersion noHost noFree noLoad) (fun resets => (unreset resets).elim)
    ⟨hasReference_of_isAccountLife account, rfl⟩ h
  exact held.2

/-! ## The beginning of a closing -/

/-- The controller is OPEN, ARMED or in fault: no operation is under way, and the contacts are not held closed. -/
def isAtRest : SupplyState → Bool
  | .opened | .armed | .fault _ => true
  | _ => false

theorem SupplyChange.rests {starts : Prop} {c d : Supply} (change : SupplyChange starts c d) (idle : ¬starts)
    (rests : isAtRest c.state = true) : isAtRest d.state = true := by
  cases change with
  | kept state => rw [state]; exact rests
  | opening start => rcases start with state | state <;> simp [state, isAtRest] at rests
  | closing start =>
    rcases start with state | begun
    · simp [state, isAtRest] at rests
    · exact absurd begun idle
  | fault _ state => rw [state]; rfl
  | confirmedOpen _ state => rw [state]; rfl
  | confirmedClosed start => simp [start, isAtRest] at rests
  | opened _ state => rw [state]; rfl
  | armed _ state => rw [state]; rfl
  | closed start => simp [start, isAtRest] at rests

theorem Move.rests {k : Scope} {u v : State} (m : Move k u v) {n : Channel} (idle : ¬k.starts n)
    (rests : isAtRest (u.scAt n).state = true) : isAtRest (v.scAt n).state = true := by
  cases m with
  | supplies cs change => exact (change n).rests idle rests
  | requestTaken =>
    rcases u.takeRequest_cases with ⟨same, -⟩ | ⟨r, rest, -, -, -, -, taken⟩
    · rw [same]
      exact rests
    · rw [taken]
      exact rests
  | _ => exact rests

/-- Settles O12: a controller that rests leaves its rest for a closing only within the scope of the three commands; a
reset leaves it in ADOPTING. -/
theorem closingBeginsOnlyOnRequest : Obligations.ClosingBeginsOnlyOnRequest := by
  unfold Obligations.ClosingBeginsOnlyOnRequest
  intro c s t n h before closing
  by_contra idle
  have start : isAtRest (s.scAt n).state = true := by rcases before with state | state <;> rw [state] <;> rfl
  rcases exec_moves c s t h with moves | ⟨-, kind, array, first, rfl⟩
  · have after := moves.keeps (P := fun u => isAtRest (u.scAt n).state = true) (fun _ _ m => m.rests idle) start
    rw [closing] at after
    exact Bool.noConfusion after
  · rw [State.resetTo_scAt] at closing
    exact SupplyState.noConfusion closing

/-! ## The part after its first reset -/

theorem State.reset_scAt (n : Channel) : State.reset.scAt n = .reset false false := by simp [State.reset, State.scAt]

theorem State.reset_slotAt (i : Slot) : State.reset.slotAt i = freeForm i 0 := Store.reset_slotAt i

/-- Settles O9: the queues and lists are empty, every controller is in ADOPTING, and every slot is in the FREE form. -/
theorem lawsHoldAtReset : Obligations.LawsHoldAtReset := by
  unfold Obligations.LawsHoldAtReset
  refine ⟨⟨Nat.zero_le 4, Nat.zero_le 4, nofun⟩, Attention.reset_lawful, fun n => ?_, ⟨.nil, nofun⟩, fun i => ?_,
    fun i account => ?_⟩
  · rw [State.reset_scAt]
    rfl
  · rw [State.intactAt, State.reset_slotAt]
    exact freeForm_intact i 0
  · rw [State.lifeAt, State.reset_slotAt] at account
    simp [freeForm] at account

end Sys2Proof.Machine
end

section
/-! Proofs about the step: the command at the front of the queue, the commands of the part and their faults, and the
count of the time base with the events that fall due. -/

set_option Elab.async false

namespace Sys2Proof.Machine

/-- Settles O1: the step is defined so. -/
theorem frontCommandRuns : Obligations.FrontCommandRuns := by
  unfold Obligations.FrontCommandRuns
  intro i rest s
  rfl

/-! ## Commands and faults -/

/-- A row that does nothing unless it is due answers either way. -/
theorem ite_answers (c : Bool) (t u : State) :
    ∃ v, (if c = true then (Host.Outcome.next t : Result) else .next u) = .next v :=
  ⟨if c then t else u, (apply_ite Host.Outcome.next _ _ _).symm⟩

/-- Every command of the part answers a next state: the rows that test their operand test what makes it a command. -/
theorem exec_of_wellFormed {c : Instr} (s : State) (h : c.WellFormed = true) : ∃ t, exec c s = .next t := by
  cases c
  -- The rows that test their operand.
  case requestFrame e | fetchFrame e | badTypeFrame e | emptyFrame e | waitDeassertEnd e | timedOutFrameEnd e =>
    rw [Instr.WellFormed] at h
    simp [exec, execRequestFrame, execFetchFrame, execBadTypeFrame, execEmptyFrame, execWaitDeassertEnd,
      execTimedOutFrameEnd, h]
  case readDevice | causeRaise | dirtying | snapshotPart | stop =>
    rw [Instr.WellFormed] at h
    simp only [exec, execReadDevice, execCauseRaise, execDirtying, execSnapshotPart, execStop, h, Bool.not_true,
      Bool.false_eq_true, ↓reduceIte]
    repeat' split
    all_goals exact ⟨_, rfl⟩
  -- The rows with one answer.
  case requestTake | gapTimerExpiry | commitTake | quantumDebit | pulseRecogniserEdge | buttonRecogniserEdge |
      pulseEvent | feedbackEvent | press | adopt | powerOnReset | pinReset | softResetEffect | drainComplete =>
    exact ⟨_, rfl⟩
  -- The stages of restore, each in its turn or not.
  case classifyCopies | loadSettingsAndTariff | referenceConflicts | occupancyConflicts | restorePromotion |
      restoreSummary | endOfRestore =>
    exact ite_answers _ _ _
  -- The rows of a claim.
  case identify | softReset | openAccount | lookup | readAccount | survey | close | release | rewrite | discard |
      topUp | adjust | setLimits | setBand | setPrice | setStanding | readTariff | commitTariffs | levy |
      cancelLevy | configureChannel | reconnect | clearFault | fetchAttention | ackAttention | setAttentionMask =>
    simp only [exec, execIdentify, execSoftReset, execOpenAccount, execLookup, execReadAccount, execSurvey, execClose,
      execRelease, execRewrite, execDiscard, execTopUp, execAdjust, execSetLimits, execSetBand, execSetPrice,
      execSetStanding, execReadTariff, execCommitTariffs, execLevy, execCancelLevy, execConfigureChannel,
      execReconnect, execClearFault, execFetchAttention, execAckAttention, execSetAttentionMask]
    split
    all_goals exact ⟨_, rfl⟩
  -- The rows that look at what waits in a block.
  all_goals
    simp only [exec, execReadChannel, execBillUnbilled, execUnbilledCountTake, execSetHold, execResponseQueue,
      execWindowTimerExpiry, execDebitResult, execNotice, execOperationTimerExpiry, execEmergencyEngage,
      execEngageResult, execLevyClaim, execLevyResult, execSlotEntryRemoval, execSnapshotClaim, execWriteStart,
      execWriteCompletion, execPfwEvent, execRestoreLoad]
    repeat' split
    all_goals exact ⟨_, rfl⟩

/-- A term that is no command is one of a row that tests its operand, and faults. -/
theorem exec_of_illFormed {c : Instr} (s : State) (h : c.WellFormed = false) : exec c s = .fault .illFormed := by
  cases c
  case requestFrame | fetchFrame | badTypeFrame | emptyFrame | waitDeassertEnd | timedOutFrameEnd | readDevice |
      causeRaise | dirtying | snapshotPart | stop =>
    rw [Instr.WellFormed] at h
    simp [exec, execRequestFrame, execFetchFrame, execBadTypeFrame, execEmptyFrame, execWaitDeassertEnd,
      execTimedOutFrameEnd, execReadDevice, execCauseRaise, execDirtying, execSnapshotPart, execStop, h]
  all_goals exact Bool.noConfusion h

/-- Settles O3: a row tests its operand or answers a next state in every branch. -/
theorem wellFormedCommandsAnswer : Obligations.WellFormedCommandsAnswer := by
  unfold Obligations.WellFormedCommandsAnswer
  exact fun c s => ⟨exec_of_wellFormed s, exec_of_illFormed s⟩

/-! ## The events of a count -/

theorem mem_dueIf (x i : Instr) (b : Bool) : x ∈ dueIf b i ↔ b = true ∧ x = i := by
  cases b <;> simp [dueIf]

/-- A filter's run reaches a length of one or more where the sample differs from the level. -/
theorem le_runOn_iff {level sample : Bool} {run k : Nat} (positive : 0 < k) :
    k ≤ runOn level sample run ↔ sample ≠ level ∧ k ≤ run + 1 := by
  unfold runOn
  split
  · simp_all
    omega
  · simp_all

/-- A recogniser turns where the level differs from the one that it waits out (R87, R112). -/
theorem Recogniser.edge_ne_iff (r : Recogniser) (level : Bool) :
    r.edge level ≠ r ↔ (r = .waitDeassert ∧ level = false) ∨ (r = .waitAssert ∧ level = true)
      ∨ ((∃ k, r = .qualifying k) ∧ level = false) := by
  cases r <;> cases level <;> simp [Recogniser.edge]

theorem Recogniser.qualified_iff (r : Recogniser) (time : Nat) (level : Bool) :
    r.qualified time level = true ↔ level = true ∧ ∃ k, r = .qualifying k ∧ time ≤ k + 1 := by
  cases r <;> simp [Recogniser.qualified]

/-- A feedback event that changes the level ends an opening when it falls and a closing when it rises (R107, R108). -/
theorem Supply.confirmedBy_iff {c : Supply} {level : Bool} (changes : level ≠ c.feedback) :
    c.confirmedBy level = true ↔ c.state = .opening ∧ level = false ∨ c.state = .closing ∧ level = true := by
  unfold Supply.confirmedBy
  cases level <;> cases fed : c.feedback <;> cases c.state <;> simp_all

theorem lastCount_iff (timer : Option Nat) : timer.any (· ≤ 1) = true ↔ ∃ left, timer = some left ∧ left ≤ 1 := by
  cases timer <;> simp

/-- The feedback input of a controller shows the other level for the tenth sample in a row (R103). -/
def State.filteredAt (s : State) (p : Pins) (n : Channel) : Prop :=
  p.fbk.getLsbD n.val ≠ (s.scAt n).feedback ∧ 10 ≤ (s.scAt n).feedbackRun + 1

/-- The events of the device at a count, one by one. -/
theorem State.mem_deviceEvents (s : State) (p : Pins) (x : Instr) :
    x ∈ s.deviceEvents p ↔
      ((p.pfw ≠ s.ru.pfw ∧ 5 ≤ s.ru.pfwRun + 1) ∧ x = .pfwEvent p.pfw)
        ∨ ((∃ left, s.hl.gap = some left ∧ left ≤ 1) ∧ x = .gapTimerExpiry)
        ∨ ((∃ w, s.ru.engine = .writing w ∧ 3 ≤ w.elapsed + 1) ∧ x = .writeCompletion none) := by
  have writing : (match s.ru.engine with
      | .writing w => decide (writeTime ≤ w.elapsed + 1)
      | .idle => false
      | .snapshot _ => false) = true ↔ ∃ w, s.ru.engine = .writing w ∧ 3 ≤ w.elapsed + 1 := by
    cases s.ru.engine <;> simp [writeTime]
  rw [State.deviceEvents, List.mem_append, List.mem_append, mem_dueIf, mem_dueIf, mem_dueIf, decide_eq_true_iff,
    lastCount_iff, or_assoc]
  exact or_congr (and_congr_left' (le_runOn_iff (by decide))) (or_congr_right (and_congr_left' writing))

/-- The events of a channel at a count, one by one. -/
theorem State.mem_tickEvents (s : State) (p : Pins) (n : Channel) (x : Instr) :
    x ∈ s.tickEvents p n ↔
      (s.filteredAt p n ∧ x = .feedbackEvent n (p.fbk.getLsbD n.val))
        ∨ ((∃ count left, (s.cqAt n).accumulation = .accumulating count left ∧ left ≤ 1) ∧ x = .windowTimerExpiry n)
        ∨ (((∃ left, (s.scAt n).timer = some left ∧ left ≤ 1)
            ∧ ¬(s.filteredAt p n ∧ ((s.scAt n).state = .opening ∧ p.fbk.getLsbD n.val = false
              ∨ (s.scAt n).state = .closing ∧ p.fbk.getLsbD n.val = true))) ∧ x = .operationTimerExpiry n)
        ∨ ((s.cqAt n).recogniser.edge (p.pls.getLsbD n.val) ≠ (s.cqAt n).recogniser
            ∧ x = .pulseRecogniserEdge n (p.pls.getLsbD n.val))
        ∨ ((p.pls.getLsbD n.val = true ∧ ∃ k, (s.cqAt n).recogniser = .qualifying k ∧ 1 ≤ k + 1) ∧ x = .pulseEvent n)
        ∨ ((s.scAt n).button.edge (p.btn.getLsbD n.val) ≠ (s.scAt n).button
            ∧ x = .buttonRecogniserEdge n (p.btn.getLsbD n.val))
        ∨ ((p.btn.getLsbD n.val = true ∧ ∃ k, (s.scAt n).button = .qualifying k ∧ 40 ≤ k + 1) ∧ x = .press n) := by
  have filtered : decide (feedbackSamples ≤ runOn (s.scAt n).feedback (p.fbk.getLsbD n.val) (s.scAt n).feedbackRun) = true
      ↔ s.filteredAt p n := by
    rw [decide_eq_true_iff]
    exact le_runOn_iff (by decide)
  have window : (match (s.cqAt n).accumulation with
      | .accumulating _ left => decide (left ≤ 1)
      | .idle => false) = true ↔ ∃ count left, (s.cqAt n).accumulation = .accumulating count left ∧ left ≤ 1 := by
    cases (s.cqAt n).accumulation <;> simp
  have unconfirmed : (!(decide (feedbackSamples ≤ runOn (s.scAt n).feedback (p.fbk.getLsbD n.val)
        (s.scAt n).feedbackRun) && (s.scAt n).confirmedBy (p.fbk.getLsbD n.val))) = true
      ↔ ¬(s.filteredAt p n ∧ ((s.scAt n).state = .opening ∧ p.fbk.getLsbD n.val = false
        ∨ (s.scAt n).state = .closing ∧ p.fbk.getLsbD n.val = true)) := by
    rw [Bool.not_eq_true', ← Bool.not_eq_true, Bool.and_eq_true, filtered]
    exact not_congr (and_congr_right fun changes => Supply.confirmedBy_iff changes.1)
  have expiry := and_congr (lastCount_iff (s.scAt n).timer) unconfirmed
  rw [← Bool.and_eq_true] at expiry
  unfold State.tickEvents
  simp only [List.mem_append, mem_dueIf, or_assoc]
  refine or_congr (and_congr_left' filtered) (or_congr (and_congr_left' window) (or_congr (and_congr_left' expiry)
    (or_congr (and_congr_left' bne_iff_ne) (or_congr (and_congr_left' (Recogniser.qualified_iff _ _ _))
      (or_congr (and_congr_left' bne_iff_ne) (and_congr_left' (Recogniser.qualified_iff _ _ _)))))))

/-- What waits after a count: the events of the device and of every channel. -/
theorem State.mem_tick_pending (s : State) (x : Instr) :
    x ∈ s.tick.pending ↔ x ∈ s.deviceEvents s.nextSample ∨ ∃ n, x ∈ s.tickEvents s.nextSample n := by
  have waiting : s.tick.pending
      = s.deviceEvents s.nextSample ++ channels.flatMap (s.tickEvents s.nextSample) := rfl
  rw [waiting, List.mem_append, List.mem_flatMap]
  exact or_congr_right (exists_congr fun n => and_iff_right (List.mem_finRange n))

theorem State.tick_cqAt (s : State) (n : Channel) : s.tick.cqAt n = (s.cqAt n).tick := by
  simp [State.tick, State.cqAt]

/-- With no command waiting and no step due, the step is a count. -/
theorem step_of_idle {s : State} (empty : s.pending = []) (idle : s.due = none) : step s = .next s.tick := by
  unfold step
  rw [empty]
  simp [idleStep, idle]

/-- Settles O2: no command touches the queue, an idle part runs the step that is due, and a count queues the events of
the device and of each channel, which are told apart by their commands. -/
theorem timeBaseFeedsTheQueue : Obligations.TimeBaseFeedsTheQueue := by
  unfold Obligations.TimeBaseFeedsTheQueue
  refine ⟨fun i s t => exec_pending, fun i s empty due => ?_, fun s empty idle => ?_⟩
  · unfold step
    rw [empty]
    simp [idleStep, due]
  intro p lessOne counted turns filtered confirmed
  have sample : p = s.nextSample := by
    unfold p State.nextSample
    cases s.samples <;> rfl
  clear_value p
  subst sample
  refine ⟨s.tick, step_of_idle empty idle, rfl, rfl, rfl, rfl, rfl, rfl, rfl, fun n => ?_, fun n => ?_, rfl, rfl, ?_⟩
  · rw [State.tick_cqAt]
    rfl
  · rw [State.tick_scAt]
    rfl
  have turned (r : Recogniser) (level sample : Bool) :
      r.edge sample ≠ r ∧ level = sample ↔ level = sample ∧ turns r level := by
    rw [and_comm]
    exact and_congr_right fun same => same ▸ r.edge_ne_iff level
  simp only [State.mem_tick_pending, State.mem_deviceEvents, State.mem_tickEvents]
  refine ⟨fun n level => ?_, fun level => ?_, fun n => ?_, fun n => ?_, ?_, fun found => ?_, fun n level => ?_, fun n => ?_,
    fun n level => ?_, fun n => ?_, ?_⟩
  · simp [State.filteredAt, filtered]
  · simp [and_comm]
  · simp
  · simp only [reduceCtorEq, and_false, false_or, or_false, Instr.operationTimerExpiry.injEq, exists_eq_right']
    rfl
  · simp
  · simp [and_comm]
  · rw [← turned]
    simp
  · simp
  · rw [← turned]
    simp
  · simp
  · rintro i ((⟨-, rfl⟩ | ⟨-, rfl⟩ | ⟨-, rfl⟩) | ⟨n, ⟨-, rfl⟩ | ⟨-, rfl⟩ | ⟨-, rfl⟩ | ⟨-, rfl⟩ | ⟨-, rfl⟩ | ⟨-, rfl⟩ | ⟨-, rfl⟩⟩)
    all_goals simp

end Sys2Proof.Machine
end

section
/-! Proofs about the host link: whole frames, the status byte and the queueing of responses (R161 to R170, R176). -/

set_option Elab.async false

namespace Sys2Proof.Machine

/-! ## Whole frames, byte by byte -/

section Frames

variable (s : State)

/-- A request frame in progress: all its bytes counted, the first 101 stored, fill sent behind the status byte. -/
def State.requested (bytes : List Byte) : State :=
  s.setHl { s.hl with
    frame := .request, status := statusByte s, out := 0#8
    sent := statusByte s :: List.replicate (bytes.length - 1) 0#8
    shift := [], stored := bytes.take storedLimit, count := bytes.length, selected := none, gap := some gapTime }

theorem State.linkAssert_linkByte_request : s.linkAssert.linkByte 0x51#8 = s.requested [0x51#8] := rfl

theorem State.requested_linkByte (first b : Byte) (bytes : List Byte) :
    (s.requested (first :: bytes)).linkByte b = s.requested (first :: bytes ++ [b]) := by
  rw [State.linkByte_of_request rfl]
  have stored : (if ((first :: bytes).take storedLimit).length < storedLimit then (first :: bytes).take storedLimit ++ [b]
      else (first :: bytes).take storedLimit) = (first :: bytes ++ [b]).take storedLimit := by
    rw [List.length_take, List.take_append]
    split
    case isTrue room =>
      have left : (first :: bytes).length < storedLimit := by
        by_contra filled
        rw [Nat.min_eq_left (Nat.le_of_not_lt filled)] at room
        exact Nat.lt_irrefl _ room
      rw [List.take_of_length_le (l := [b]) (Nat.sub_pos_of_lt left)]
    case isFalse full =>
      have filled : storedLimit ≤ (first :: bytes).length := by
        by_contra room
        exact full (lt_of_le_of_lt (Nat.min_le_right _ _) (Nat.lt_of_not_le room))
      rw [Nat.sub_eq_zero_of_le filled, List.take_zero, List.append_nil]
  have sent : statusByte s :: List.replicate bytes.length 0#8 ++ [0#8]
      = statusByte s :: List.replicate (bytes.length + 1) 0#8 := by
    rw [List.cons_append, List.replicate_succ']
  have count : (first :: bytes ++ [b]).length = bytes.length + 1 + 1 := by simp
  unfold State.requested
  rw [← stored, count, Nat.add_sub_cancel, ← sent]
  rfl

/-- A request frame up to the deassertion of CSN. -/
theorem State.foldl_linkByte_request (bytes : List Byte) :
    (0x51#8 :: bytes).foldl State.linkByte s.linkAssert = s.requested (0x51#8 :: bytes) := by
  induction bytes using List.reverseRecOn with
  | nil => exact s.linkAssert_linkByte_request
  | append_singleton bytes b ih =>
    rw [← List.cons_append, List.foldl_concat, ih, State.requested_linkByte]

/-- A fetch frame in progress: all its bytes counted, the bytes of the response sent behind the status byte. -/
def State.fetching (mosi : List Byte) : State :=
  s.setHl { s.hl with
    frame := .fetch, status := statusByte s, out := byteAt (responseBytes s.hl.responses.head?) mosi.length
    sent := statusByte s :: (List.range mosi.length).map (byteAt (responseBytes s.hl.responses.head?))
    shift := [], stored := [], count := mosi.length + 1, selected := s.hl.responses.head?, gap := some gapTime }

theorem State.linkAssert_linkByte_fetch : s.linkAssert.linkByte 0x46#8 = s.fetching [] := rfl

theorem State.fetching_linkByte (b : Byte) (mosi : List Byte) :
    (s.fetching mosi).linkByte b = s.fetching (mosi ++ [b]) := by
  unfold State.fetching
  rw [List.length_append, List.length_singleton, List.range_succ, List.map_append]
  rfl

/-- A fetch frame up to the deassertion of CSN. -/
theorem State.foldl_linkByte_fetch (mosi : List Byte) :
    (0x46#8 :: mosi).foldl State.linkByte s.linkAssert = s.fetching mosi := by
  induction mosi using List.reverseRecOn with
  | nil => exact s.linkAssert_linkByte_fetch
  | append_singleton mosi b ih => rw [← List.cons_append, List.foldl_concat, ih, State.fetching_linkByte]

/-- The bytes sent of a response, with fill behind its end. -/
theorem map_byteAt_range (bytes : List Byte) (n : Nat) :
    (List.range n).map (byteAt bytes) = (bytes ++ List.replicate n 0#8).take n := by
  refine List.ext_getElem (by simp) fun k hk _ => ?_
  have short : k < n := by simpa using hk
  rw [List.getElem_map, List.getElem_range, List.getElem_take, List.getElem_append, byteAt]
  split
  case isTrue inside => rw [List.getD_eq_getElem _ _ inside]
  case isFalse outside => rw [List.getD_eq_default _ _ (Nat.le_of_not_lt outside), List.getElem_replicate]

/-- A discarded frame takes its bytes and shifts out fill; nothing else of the link changes (R162). -/
theorem State.foldl_linkByte_discard {kept : FrameResult} (bytes : List Byte) (frame : s.hl.frame = .discard kept) :
    ∃ out sent shift, bytes.foldl State.linkByte s
      = s.setHl { s.hl with out := out, sent := sent, shift := shift } := by
  induction bytes generalizing s with
  | nil => exact ⟨s.hl.out, s.hl.sent, s.hl.shift, rfl⟩
  | cons b rest ih =>
    have discarded : s.linkByte b = s.setHl (s.hl.shifted fillByte) := by simp only [State.linkByte, frame]
    rw [List.foldl_cons, discarded]
    obtain ⟨out, sent, shift, taken⟩ := ih (s.setHl (s.hl.shifted fillByte)) frame
    rw [taken]
    exact ⟨out, sent, shift, rfl⟩

end Frames

/-! ## The rows of the link -/

section Rows

variable {s : State} {e : LinkEvent}

theorem exec_requestFrame_of_starts {mosi : List Byte} (idle : s.hl.frame = .idle) :
    exec (.requestFrame (.frame (0x51#8 :: mosi))) s = .next (s.linkEvent (.frame (0x51#8 :: mosi))) := by
  simp [exec, execRequestFrame, LinkEvent.ofRequestFrame, requestType, Link.starts, idle]

theorem exec_fetchFrame_of_starts {mosi : List Byte} (idle : s.hl.frame = .idle) :
    exec (.fetchFrame (.frame (0x46#8 :: mosi))) s = .next (s.linkEvent (.frame (0x46#8 :: mosi))) := by
  simp [exec, execFetchFrame, LinkEvent.ofFetchFrame, fetchType, Link.starts, idle]

theorem exec_badTypeFrame_of_starts {kind : Byte} {mosi : List Byte} (idle : s.hl.frame = .idle)
    (noRequest : kind ≠ 0x51#8) (noFetch : kind ≠ 0x46#8) :
    exec (.badTypeFrame (.frame (kind :: mosi))) s = .next (s.linkEvent (.frame (kind :: mosi))) := by
  simp [exec, execBadTypeFrame, LinkEvent.ofBadTypeFrame, requestType, fetchType, Link.starts, idle, noRequest, noFetch]

end Rows

/-! ## Request frames -/

/-- The five checks of a whole frame of a good request pass (R167). -/
theorem admission_of_good {s : State} {tag code : Byte} {payload : List Byte} (tagged : tag ≠ 0#8)
    (short : payload.length ≤ 96) (room : s.hl.requests.length < 4) (power : s.ru.power = .run ∨ s.ru.power = .holdup) :
    let bytes := [0x51#8, tag, code, count8 payload.length] ++ payload
    admission s (bytes ++ [crc8 bytes]) (5 + payload.length) = .accepted := by
  intro bytes
  have length : (byteAt (bytes ++ [crc8 bytes]) 3).toNat = payload.length := by
    show (count8 payload.length).toNat = _
    rw [count8, BitVec.toNat_ofNat]
    omega
  have size : bytes.length = 4 + payload.length := by
    simp [bytes]
    omega
  have covered : (bytes ++ [crc8 bytes]).take (4 + payload.length) = bytes := by
    rw [← size, List.take_left]
  have check : byteAt (bytes ++ [crc8 bytes]) (4 + payload.length) = crc8 bytes := by
    rw [byteAt, ← size, List.getD_append_right _ _ _ _ (Nat.le_refl _), Nat.sub_self]
    rfl
  have first : byteAt (bytes ++ [crc8 bytes]) 1 = tag := rfl
  have unfull : ¬queueDepth ≤ s.hl.requests.length := Nat.not_le.mpr room
  simp only [admission, length, covered, check, first]
  rw [if_neg (by omega), if_neg (by simp), if_neg tagged, if_neg unfull, if_pos power]

theorem requestOf_good (tag code : Byte) {payload : List Byte} (check : Byte) (short : payload.length ≤ 96) :
    requestOf ([0x51#8, tag, code, count8 payload.length] ++ payload ++ [check])
      = { tag := tag, code := code, payload := payload } := by
  have length : (count8 payload.length).toNat = payload.length := by
    rw [count8, BitVec.toNat_ofNat]
    omega
  show Request.mk tag code ((payload ++ [check]).take (count8 payload.length).toNat) = _
  rw [length, List.take_left]

/-- Settles O14: the frame is its bytes one by one, and the five checks at its end pass. -/
theorem requestFrameAdmitted : Obligations.RequestFrameAdmitted := by
  unfold Obligations.RequestFrameAdmitted
  intro s tag code payload idle tagged short room power bytes
  have whole : bytes ++ [crc8 bytes] = 0x51#8 :: ([tag, code, count8 payload.length] ++ payload ++ [crc8 bytes]) := rfl
  have size : (bytes ++ [crc8 bytes]).length = 5 + payload.length := by
    simp [bytes]
    omega
  have assembled : (bytes ++ [crc8 bytes]).foldl State.linkByte s.linkAssert = s.requested (bytes ++ [crc8 bytes]) := by
    rw [whole]
    exact s.foldl_linkByte_request _
  have stored : (s.requested (bytes ++ [crc8 bytes])).hl.stored = bytes ++ [crc8 bytes] :=
    List.take_of_length_le (by rw [size]; unfold storedLimit; omega)
  have count : (s.requested (bytes ++ [crc8 bytes])).hl.count = 5 + payload.length := size
  have accepted : admission (s.requested (bytes ++ [crc8 bytes])) (s.requested (bytes ++ [crc8 bytes])).hl.stored
      (s.requested (bytes ++ [crc8 bytes])).hl.count = .accepted := by
    rw [stored, count]
    exact admission_of_good (s := s.requested (bytes ++ [crc8 bytes])) tagged short room power
  refine ⟨(s.requested (bytes ++ [crc8 bytes])).linkDeassert, ?_, ?_⟩
  · rw [whole, exec_requestFrame_of_starts idle, ← whole, State.linkEvent, assembled]
  · rw [State.linkDeassert_of_request rfl, State.endRequest_eq, accepted, if_pos rfl, stored,
      requestOf_good tag code _ short]
    refine ⟨rfl, rfl, rfl, rfl, rfl, ?_, rfl⟩
    show statusByte s :: List.replicate ((bytes ++ [crc8 bytes]).length - 1) 0#8 = _
    rw [size]
    congr 2
    omega

/-! ## Fetch frames -/

theorem State.linkDeassert_of_fetch {s : State} (frame : s.hl.frame = .fetch) : s.linkDeassert = s.endFetch := by
  simp only [State.linkDeassert, frame]

/-- A whole fetch frame ends as its end finds what it has clocked. -/
theorem exec_fetchFrame_whole {s : State} {mosi : List Byte} (idle : s.hl.frame = .idle) :
    exec (.fetchFrame (.frame (0x46#8 :: mosi))) s = .next (s.fetching mosi).endFetch := by
  rw [exec_fetchFrame_of_starts idle, State.linkEvent, State.foldl_linkByte_fetch, State.linkDeassert_of_fetch rfl]

/-- The frame ended and its response removed (R170). -/
def State.delivered (s : State) (mosi : List Byte) : State :=
  s.setHl { (s.fetching mosi).hl.ended .accepted with responses := s.hl.responses.tail }

/-- What the end of a fetch frame does (R170): it removes nothing from a frame clocked short and with no response; and of
a frame clocked to its end it removes the response, and the Engine takes its next request where the queue was full. -/
theorem State.endFetch_fetching (s : State) (mosi : List Byte) :
    (s.fetching mosi).endFetch
      = (let l := (s.fetching mosi).hl
        if mosi.length < (responseBytes s.hl.responses.head?).length then s.setHl (l.ended .fetchIncomplete)
        else if s.hl.responses.head? = none then s.setHl (l.ended .accepted)
        else
          if 4 ≤ s.hl.responses.length then (s.delivered mosi).takeRequest else s.delivered mosi) := by
  have count : (s.fetching mosi).hl.count - 1 = mosi.length := Nat.add_sub_cancel _ _
  have selected : (s.fetching mosi).hl.selected = s.hl.responses.head? := rfl
  unfold State.endFetch
  rw [count, selected]
  dsimp only
  split
  · rfl
  · cases s.hl.responses.head? <;> rfl

/-- The Engine's take changes of the link the request queue alone. -/
theorem State.takeRequest_hl (s : State) : s.takeRequest.hl = { s.hl with requests := s.takeRequest.hl.requests } := by
  rcases s.takeRequest_cases with ⟨same, -⟩ | ⟨r, rest, -, -, -, -, taken⟩
  · rw [same]
  · rw [taken]

/-- Settles O16: the bytes of the frame shift out the response, and its end removes it if all have gone out. -/
theorem fetchFrameDelivers : Obligations.FetchFrameDelivers := by
  unfold Obligations.FetchFrameDelivers
  intro s mosi idle
  refine ⟨fun r rest queued => ?_, fun empty => ?_⟩
  · intro bytes full
    have selected : s.hl.responses.head? = some r := by rw [queued]; rfl
    have size : (responseBytes (some r)).length = 5 + r.payload.length := by
      simp [responseBytes]
      omega
    have sent : (s.fetching mosi).hl.sent
        = statusByte s :: (bytes ++ [crc8 bytes] ++ List.replicate mosi.length 0#8).take mosi.length := by
      rw [← map_byteAt_range]
      exact congrArg (fun x => statusByte s :: (List.range mosi.length).map (byteAt (responseBytes x))) selected
    refine ⟨(s.fetching mosi).endFetch, exec_fetchFrame_whole idle, ?_⟩
    rw [State.endFetch_fetching]
    dsimp only
    rw [selected, size, if_neg (Option.some_ne_none r), queued]
    by_cases whole : full
    · have unclipped : ¬mosi.length < 5 + r.payload.length := Nat.not_lt.mpr whole
      have removed : (s.delivered mosi).hl.responses = rest := congrArg List.tail queued
      rw [if_neg unclipped, if_pos whole, if_pos whole, List.length_cons]
      by_cases last : 4 ≤ rest.length + 1
      · have kept := (s.delivered mosi).takeRequest_hl
        rw [if_pos last]
        refine ⟨?_, ?_, ?_, ?_, ?_, ?_, fun q qs _ filled free power waiting => ?_⟩
        case refine_6 =>
          rintro (short | clipped)
          · omega
          · exact absurd whole clipped
        case refine_7 =>
          rw [State.takeRequest_of_ready (s := s.delivered mosi) (r := q) (rest := qs) free waiting
            (by rw [removed, filled]; decide) power]
          exact ⟨rfl, rfl, by rw [← free]; rfl⟩
        all_goals rw [kept]
        · exact removed
        · rfl
        · exact sent
        · rfl
        · rfl
      · rw [if_neg last]
        refine ⟨removed, rfl, sent, rfl, rfl, fun _ => ⟨rfl, rfl⟩, fun q qs _ filled => ?_⟩
        omega
    · have clipped : mosi.length < 5 + r.payload.length := Nat.lt_of_not_le whole
      rw [if_pos clipped, if_neg whole, if_neg whole]
      exact ⟨queued, rfl, sent, rfl, rfl, fun _ => ⟨rfl, rfl⟩, fun _ _ clocked => absurd clocked whole⟩
  · intro bytes
    have selected : s.hl.responses.head? = none := by rw [empty]; rfl
    have sent : (s.fetching mosi).hl.sent
        = statusByte s :: (bytes ++ [crc8 bytes] ++ List.replicate mosi.length 0#8).take mosi.length := by
      rw [← map_byteAt_range]
      exact congrArg (fun x => statusByte s :: (List.range mosi.length).map (byteAt (responseBytes x))) selected
    refine ⟨(s.fetching mosi).endFetch, exec_fetchFrame_whole idle, ?_⟩
    have size : (responseBytes none).length = 5 := rfl
    rw [State.endFetch_fetching]
    dsimp only
    rw [selected, size, if_pos rfl]
    by_cases whole : 5 ≤ mosi.length
    · rw [if_pos whole, if_neg (Nat.not_lt.mpr whole)]
      exact ⟨rfl, sent, empty, rfl, rfl, rfl⟩
    · rw [if_neg whole, if_pos (Nat.lt_of_not_le whole)]
      exact ⟨rfl, sent, empty, rfl, rfl, rfl⟩

/-! ## Other frames -/

/-- A type byte that names neither type discards the frame (R162). -/
theorem State.linkByte_of_badType {s : State} (frame : s.hl.frame = .kind) {b : Byte} (noRequest : b ≠ 0x51#8)
    (noFetch : b ≠ 0x46#8) :
    s.linkByte b = s.setHl { s.hl.counted fillByte with frame := .discard .badType, gap := none } := by
  have notRequest : b ≠ requestType := noRequest
  have notFetch : b ≠ fetchType := noFetch
  simp only [State.linkByte, frame, notRequest, notFetch, ↓reduceIte]

theorem State.linkDeassert_of_discard {s : State} {kept : FrameResult} (frame : s.hl.frame = .discard kept) :
    s.linkDeassert = s.setHl (s.hl.ended kept) := by
  simp only [State.linkDeassert, frame]

/-- Settles O17: a discarded frame takes its bytes without effect, and each other end leaves the queues as they are. -/
theorem otherFramesEnd : Obligations.OtherFramesEnd := by
  unfold Obligations.OtherFramesEnd
  refine ⟨fun s kind mosi idle noRequest noFetch => ?badType, fun s idle => ?empty, fun s found => ?found,
    fun s timed => ?expiry, fun s timedOut => ?timedOut⟩
  case badType =>
    obtain ⟨out, sent, shift, taken⟩ := State.foldl_linkByte_discard (s.linkAssert.setHl
      { s.linkAssert.hl.counted fillByte with frame := .discard .badType, gap := none }) mosi rfl
    refine ⟨_, exec_badTypeFrame_of_starts idle noRequest noFetch, ?_⟩
    rw [State.linkEvent, List.foldl_cons, State.linkByte_of_badType rfl noRequest noFetch, taken,
      State.linkDeassert_of_discard rfl]
    exact ⟨rfl, rfl, rfl, rfl, rfl, rfl⟩
  case empty =>
    refine ⟨s.linkAssert.linkDeassert, ?_, rfl, rfl, rfl, rfl, rfl, rfl⟩
    simp [exec, execEmptyFrame, LinkEvent.ofEmptyFrame, Link.isEmptyFrame, idle, State.linkEvent]
  case found =>
    simp [exec, execWaitDeassertEnd, LinkEvent.ofFrameRest, Link.continues, found, State.linkEvent, State.linkDeassert,
      State.setHl]
  case expiry =>
    have runs : isTimed s.hl.frame = true := by rcases timed with frame | frame | frame <;> rw [frame] <;> rfl
    simp [exec, execGapTimerExpiry, runs, State.setHl]
  case timedOut =>
    simp [exec, execTimedOutFrameEnd, LinkEvent.ofFrameRest, Link.continues, timedOut, State.linkEvent,
      State.linkDeassert, State.setHl, Link.ended]

/-! ## The status byte -/

/-- The result stands in the low three bits (Table 10-4). -/
theorem frameResultCode_getLsbD (r : FrameResult) {k : Nat} (high : 3 ≤ k) : (frameResultCode r).getLsbD k = false := by
  have small : (frameResultCode r).toNat < 2 ^ 3 := by cases r <;> decide
  exact Nat.testBit_lt_two_pow (small.trans_le (Nat.pow_le_pow_right (by decide) high))

theorem frameResultCode_masked (r : FrameResult) : frameResultCode r &&& 0x07#8 = frameResultCode r := by
  cases r <;> rfl

theorem ite_getLsbD {c : Prop} [Decidable c] (x y : Byte) (k : Nat) :
    (if c then x else y).getLsbD k = if c then x.getLsbD k else y.getLsbD k := apply_ite (BitVec.getLsbD · k) _ _ _

/-- Each of the five high bits shows its own condition (R165, Table 10-4). -/
theorem statusByte_bits (s : State) :
    ((statusByte s).getLsbD 7 = true ↔ s.ru.power = .run ∨ s.ru.power = .holdup)
      ∧ ((statusByte s).getLsbD 6 = true ↔ s.hl.responses ≠ [])
      ∧ ((statusByte s).getLsbD 5 = true ↔ s.hl.requests.length < 4)
      ∧ ((statusByte s).getLsbD 4 = true ↔ s.au.list ≠ [])
      ∧ ((statusByte s).getLsbD 3 = true ↔ s.ru.power = .holdup) := by
  have code {k : Nat} (high : 3 ≤ k) : (frameResultCode s.hl.result).getLsbD k = false := frameResultCode_getLsbD _ high
  simp [statusByte, BitVec.getLsbD_or, ite_getLsbD, code, -BitVec.getLsbD_eq_getElem]
  exact Iff.rfl

theorem ite_masked {c : Prop} [Decidable c] {x y : Byte} (hx : x &&& 0x07#8 = 0#8) (hy : y &&& 0x07#8 = 0#8) :
    (if c then x else y) &&& 0x07#8 = 0#8 := by split <;> assumption

/-- The low three bits show the result of the frame before (R165). -/
theorem statusByte_result (s : State) : statusByte s &&& 0x07#8 = frameResultCode s.hl.result := by
  rw [statusByte]
  simp only [BitVec.and_or_distrib_right, ite_masked, frameResultCode_masked, BitVec.zero_or, BitVec.zero_and,
    BitVec.reduceAnd]

/-- The first byte of a frame shifts out the status byte, whatever the host sends in it (R165). -/
theorem State.linkAssert_byte (s : State) (b : Byte) :
    ∃ u, exec (if b = 0x51#8 then .requestFrame (.byte b) else if b = 0x46#8 then .fetchFrame (.byte b)
        else .badTypeFrame (.byte b)) s.linkAssert = .next u ∧ u.hl.sent = [statusByte s] := by
  split_ifs with request fetch
  · subst request
    exact ⟨_, rfl, rfl⟩
  · subst fetch
    exact ⟨_, rfl, rfl⟩
  · have taken : exec (.badTypeFrame (.byte b)) s.linkAssert = .next (s.linkAssert.linkByte b) := by
      simp [exec, execBadTypeFrame, LinkEvent.ofBadTypeFrame, Link.starts, State.linkAssert, State.setHl, namesNoType,
        requestType, fetchType, request, fetch, State.linkEvent]
    rw [State.linkByte_of_badType rfl request fetch] at taken
    exact ⟨_, taken, rfl⟩

/-- Settles O18: the byte loaded is read bit by bit, it goes out in byte 0, and an incomplete byte sends it bit by bit. -/
theorem statusByteLoaded : Obligations.StatusByteLoaded := by
  unfold Obligations.StatusByteLoaded
  refine ⟨fun s idle => ?_, fun s bit frame incomplete => ?_⟩
  · have asserted : exec (.emptyFrame .csnAsserts) s = .next s.linkAssert := by
      simp [exec, execEmptyFrame, LinkEvent.ofEmptyFrame, Link.isEmptyFrame, idle, State.linkEvent]
    obtain ⟨ready, response, room, attention, holdup⟩ := statusByte_bits s
    exact ⟨s.linkAssert, asserted, rfl, rfl, ready, response, room, attention, holdup, statusByte_result s, rfl, rfl, rfl,
      rfl, rfl, rfl, s.linkAssert_byte, _, rfl, rfl, fun b => ⟨_, rfl, rfl, fun c => ⟨_, rfl, rfl⟩⟩⟩
  · have unaligned : s.hl.shift.length ≠ 7 := by omega
    have joins : s.linkBit bit = { s with hl := { s.hl with shift := s.hl.shift ++ [bit] } } := by
      rcases s.linkBit_cases bit with ⟨complete, -⟩ | ⟨-, joins⟩
      · exact absurd complete unaligned
      · exact joins
    refine ⟨s.linkBit bit, ?_, ?_⟩
    · simp [exec, execEmptyFrame, LinkEvent.ofEmptyFrame, Link.isEmptyFrame, frame, Link.completes, unaligned,
        State.linkEvent]
    · rw [joins]
      refine ⟨Link.misoBits_append s.hl bit, ?_, rfl, rfl⟩
      simp [Link.miso, frame, wireBit]

/-! ## The queueing of a response -/

/-- Settles O20: the phase of the request says what is queued. -/
theorem responseQueued : Obligations.ResponseQueued := by
  unfold Obligations.ResponseQueued
  intro s q o p answered
  simp [exec, execResponseQueue, answered, State.setHl, Serving.response]

end Sys2Proof.Machine
end

section
/-! Proofs about requests that read the table (R19 to R21), the refusals by the first checks (R12 to R16), the quarantine
on a mismatch (R13), the refusals of OPEN (R29) and RELEASE (R34). -/

set_option Elab.async false

namespace Sys2Proof.Machine

/-! ## The end of a claim -/

section ClaimEnd

variable {s : State} {q : Request} {c : Claim} {t : Taken}

/-- A claim that changes nothing leaves its answer alone. -/
theorem State.finishClaim_unchanged (hq : s.Serves q c) (unchanged : t.state = s) :
    s.finishClaim t = s.answering q t.outcome t.payload := by
  rw [State.finishClaim, unchanged, State.sendNotices_self, State.answer_of_serves hq]

/-- The answer of a claim reaches the request that it serves, whatever the claim has changed of the Store. -/
theorem State.finishClaim_answered (hq : s.Serves q c) (kept : t.state.re = s.re) :
    (s.finishClaim t).Answered q t.outcome t.payload := by
  have served : t.state.re = some { request := q, phase := .claim c } := kept.trans hq
  rw [State.Answered, State.finishClaim_re, served]
  rfl

@[simp] theorem State.finishClaim_tu : (s.finishClaim t).tu = t.state.tu := by simp [State.finishClaim]
@[simp] theorem State.finishClaim_le : (s.finishClaim t).le = t.state.le := by simp [State.finishClaim]
@[simp] theorem State.finishClaim_cq : (s.finishClaim t).cq = t.state.cq := by simp [State.finishClaim]
@[simp] theorem State.finishClaim_hl : (s.finishClaim t).hl = t.state.hl := by simp [State.finishClaim]
@[simp] theorem State.finishClaim_pins : (s.finishClaim t).pins = t.state.pins := by simp [State.finishClaim]
@[simp] theorem State.finishClaim_samples : (s.finishClaim t).samples = t.state.samples := by simp [State.finishClaim]
@[simp] theorem State.finishClaim_pending : (s.finishClaim t).pending = t.state.pending := by simp [State.finishClaim]

theorem State.finishClaim_slotAt (i : Slot) : (s.finishClaim t).slotAt i = t.state.slotAt i :=
  slotAt_congr (State.finishClaim_store s t) i

theorem State.finishClaim_listAt (n : Channel) : (s.finishClaim t).listAt n = t.state.listAt n := by
  rw [State.listAt, State.finishClaim_store, State.listAt]

/-- The controllers of a claim that changes no view stay as they were. -/
theorem State.finishClaim_sc (kept : t.state.sc = s.sc) (views : ∀ n, t.state.viewOf n = s.viewOf n) :
    (s.finishClaim t).sc = s.sc := by
  refine Vector.ext fun k hk => ?_
  have same := State.finishClaim_scAt (s := s) (t := t) ⟨k, hk⟩
  rw [views, if_pos rfl, List.append_nil] at same
  exact same.trans (scAt_congr kept ⟨k, hk⟩)

end ClaimEnd

/-! ## Views -/

/-- Two slots that a view cannot tell apart: of the same account with the same content, or no occupants. -/
def SlotState.Alike (x y : SlotState) : Prop :=
  (x.life = y.life ∧ x.generation = y.generation ∧ x.body = y.body) ∨ (occupies x.life = false ∧ occupies y.life = false)

theorem SlotState.Alike.refl (x : SlotState) : x.Alike x := .inl ⟨rfl, rfl, rfl⟩

theorem SlotState.Alike.sealed (x : SlotState) (i : Slot) : (x.sealed i).Alike x :=
  Or.inl ⟨x.sealed_life i, x.sealed_generation i, x.sealed_body i⟩

theorem SlotState.Alike.of_life {x y : SlotState} (hx : occupies x.life = false) (hy : occupies y.life = false) :
    x.Alike y := .inr ⟨hx, hy⟩

/-- The view of a channel is read off its list and the slot of the first place. -/
theorem State.viewOf_eq_of_head {s t : State} {n : Channel} (list : t.listAt n = s.listAt n)
    (head : ∀ hd tl, s.listAt n = hd :: tl → (t.slotAt (slotOf hd)).Alike (s.slotAt (slotOf hd))) :
    t.viewOf n = s.viewOf n := by
  unfold State.viewOf State.occupant State.lifeAt State.bodyAt State.handleAt
  rw [list]
  cases places : s.listAt n with
  | nil => rfl
  | cons hd tl =>
    rcases head hd tl places with ⟨life, generation, body⟩ | ⟨after, before⟩
    · dsimp only
      rw [life]
      split
      · rfl
      · rename_i occupied
        split at occupied
        · obtain rfl := Option.some.inj occupied
          rw [life, generation, body]
        · exact absurd occupied nofun
    · dsimp only
      rw [after, before]
      rfl

theorem State.viewOf_of_vacant {s : State} {n : Channel} (vacant : s.occupant n = none) : s.viewOf n = .vacant := by
  rw [State.viewOf, vacant]

theorem State.viewOf_of_live {s : State} {n : Channel} {i : Slot} (occupant : s.occupant n = some i)
    (live : s.lifeAt i = .live) :
    s.viewOf n = .live (s.handleAt i) (creditOfCode (s.bodyAt i).credit) (emergencyOfCode (s.bodyAt i).emergency) := by
  rw [State.viewOf, occupant]
  simp only [live]

theorem State.viewOf_of_not_live {s : State} {n : Channel} {i : Slot} (occupant : s.occupant n = some i)
    (unfit : s.lifeAt i ≠ .live) : s.viewOf n = .quarantined := by
  rw [State.viewOf, occupant]
  dsimp only
  split
  · exact absurd (by assumption) unfit
  all_goals rfl

theorem State.occupies_of_occupant {s : State} {n : Channel} {i : Slot} (occupant : s.occupant n = some i) :
    occupies (s.lifeAt i) = true := by
  unfold State.occupant at occupant
  split at occupant
  · exact absurd occupant nofun
  · split at occupant
    case isTrue found =>
      obtain rfl := Option.some.inj occupant
      exact found
    case isFalse => exact absurd occupant nofun

/-- The occupant stands in the first place (R25). -/
theorem State.occupant_eq_some_iff {s : State} {n : Channel} {i : Slot} :
    s.occupant n = some i ↔ ∃ hd tl, s.listAt n = hd :: tl ∧ slotOf hd = i ∧ occupies (s.lifeAt i) = true := by
  unfold State.occupant
  cases s.listAt n with
  | nil => simp
  | cons hd tl =>
    by_cases found : occupies (s.lifeAt (slotOf hd)) = true
    · simp only [found, ↓reduceIte, Option.some.injEq, List.cons.injEq]
      constructor
      · rintro rfl
        exact ⟨hd, tl, ⟨rfl, rfl⟩, rfl, found⟩
      · rintro ⟨_, _, ⟨rfl, rfl⟩, rfl, -⟩
        rfl
    · simp only [found, Bool.false_eq_true, ↓reduceIte, reduceCtorEq, List.cons.injEq, false_iff]
      rintro ⟨_, _, ⟨rfl, rfl⟩, rfl, occupied⟩
      exact found occupied

theorem State.listAt_congr {s t : State} (h : t.store.lists = s.store.lists) (n : Channel) : t.listAt n = s.listAt n := by
  rw [State.listAt, State.listAt, h]

/-! ## The first checks of a claim by handle -/

section Unfit

variable {s : State} {q : Request} {c : Claim} {t : Taken} {h : Handle} {i : Slot} {command : Instr}

/-- The account states, as the check of a mismatch tells them apart. -/
def heldLife : Held → Life
  | .waiting => .waiting
  | .live => .live
  | .settled => .settled

theorem isAccountLife_iff_heldLife (l : Life) : isAccountLife l ↔ ∃ held, l = heldLife held := by
  constructor
  · rintro (rfl | rfl | rfl)
    exacts [⟨.waiting, rfl⟩, ⟨.live, rfl⟩, ⟨.settled, rfl⟩]
  · rintro ⟨held, rfl⟩
    cases held
    exacts [.inl rfl, .inr (.inl rfl), .inr (.inr rfl)]

/-- R13: an account that fails its check is quarantined with its state held. -/
theorem State.check_of_account {held : Held} (life : s.lifeAt i = heldLife held) (broken : s.intactAt i = false) :
    s.check i = s.quarantine i held := by
  have broken : (s.slotAt i).intact i = false := broken
  rw [State.lifeAt] at life
  cases held <;> simp [State.check, life, broken, heldLife]

/-- R15: a quarantined record that fails its check is renewed. -/
theorem State.check_of_quarantined {held : Held} (life : s.lifeAt i = .quarantined held) (broken : s.intactAt i = false) :
    s.check i = (s.putRecord i (s.slotAt i)).raiseSlot i .quarantined := by
  have broken : (s.slotAt i).intact i = false := broken
  rw [State.lifeAt] at life
  simp [State.check, life, broken]

theorem State.check_of_lost (life : s.lifeAt i = .lost) (broken : s.intactAt i = false) :
    s.check i = s.setSlot i (lostForm i (s.slotAt i).generation (s.slotAt i).counter) := by
  have broken : (s.slotAt i).intact i = false := broken
  rw [State.lifeAt] at life
  simp [State.check, life, broken]

/-- A claim refused after a check leaves what the check has left, and the answer (R18). -/
theorem State.refused_effect (hq : s.Serves q c) {u : State} (o : OutcomeCode) (kept : u.re = s.re) :
    (∀ j, (s.finishClaim (.refused u o)).slotAt j = u.slotAt j)
      ∧ (s.finishClaim (.refused u o)).store = u.store ∧ (s.finishClaim (.refused u o)).au = u.au
      ∧ (s.finishClaim (.refused u o)).ru = u.ru ∧ (s.finishClaim (.refused u o)).Answered q o [] :=
  ⟨fun j => State.finishClaim_slotAt j, State.finishClaim_store s _, State.finishClaim_au, State.finishClaim_ru,
    State.finishClaim_answered hq kept⟩

/-- A claim refused after a check that leaves every slot alike sends no notice. -/
theorem State.finishClaim_refused_sc {u : State} (o : OutcomeCode) (kept : u.sc = s.sc)
    (lists : u.store.lists = s.store.lists) (alike : ∀ j, (u.slotAt j).Alike (s.slotAt j)) :
    (s.finishClaim (.refused u o)).sc = s.sc := by
  have views (n : Channel) : u.viewOf n = s.viewOf n :=
    State.viewOf_eq_of_head (State.listAt_congr lists n) fun hd _ _ => alike (slotOf hd)
  exact State.finishClaim_sc kept views

theorem State.renewed_slotAt (s : State) (i j : Slot) :
    ((s.putRecord i (s.slotAt i)).raiseSlot i .quarantined).slotAt j
      = if i = j then (s.slotAt i).sealed i else s.slotAt j :=
  (slotAt_congr (State.raiseSlot_store _ i .quarantined) j).trans (s.putRecord_slotAt i j _)

/-- R13: a claim whose account fails its check leaves it quarantined and is refused. -/
theorem refused_of_mismatch (hq : s.Serves q c) {held : Held} (life : s.lifeAt i = heldLife held)
    (broken : s.intactAt i = false) (o : OutcomeCode) :
    let t := s.finishClaim (.refused (s.check i) o)
    t.lifeAt i = .quarantined held ∧ t.bodyAt i = s.bodyAt i
      ∧ t.intactAt i = true ∧ (∀ j, j ≠ i → t.slotAt j = s.slotAt j) ∧ t.store.lists = s.store.lists
      ∧ t.au = { s.au with inbox := s.au.inbox ++ [.raised .store (.slot i .quarantined)] }
      ∧ t.Answered q o [] := by
  intro t
  obtain ⟨slots, store, au, -, answered⟩ := State.refused_effect (u := s.check i) hq o (s.check_re i)
  have slot : t.slotAt i = SlotState.sealed { s.slotAt i with life := .quarantined held } i := by
    rw [slots, State.check_of_account life broken, State.quarantine_slotAt, if_pos rfl]
  refine ⟨?_, ?_, ?_, fun j other => ?_, ?_, ?_, answered⟩
  · rw [State.lifeAt, slot, SlotState.sealed_life]
  · rw [State.bodyAt, slot, SlotState.sealed_body, State.bodyAt]
  · rw [State.intactAt, slot, SlotState.sealed_intact]
  · rw [slots, State.check_other s i j other]
  · rw [store, State.check_store_lists]
  · rw [au, State.check_of_account life broken]
    rfl

/-- R15: a claim whose quarantined record fails its check leaves it renewed and is refused. -/
theorem refused_of_mismatchQuarantined (hq : s.Serves q c) {held : Held} (life : s.lifeAt i = .quarantined held)
    (broken : s.intactAt i = false) (o : OutcomeCode) :
    let t := s.finishClaim (.refused (s.check i) o)
    t.lifeAt i = .quarantined held ∧ t.bodyAt i = s.bodyAt i
      ∧ t.intactAt i = true ∧ (∀ j, j ≠ i → t.slotAt j = s.slotAt j) ∧ t.store.lists = s.store.lists
      ∧ t.au = { s.au with inbox := s.au.inbox ++ [.raised .store (.slot i .quarantined)] }
      ∧ t.ru = s.ru ∧ t.sc = s.sc ∧ t.Answered q o [] := by
  intro t
  obtain ⟨slots, store, au, ru, answered⟩ := State.refused_effect (u := s.check i) hq o (s.check_re i)
  have slot : t.slotAt i = (s.slotAt i).sealed i := by
    rw [slots, State.check_of_quarantined life broken, State.renewed_slotAt, if_pos rfl]
  refine ⟨?_, ?_, ?_, fun j other => ?_, ?_, ?_, ?_, ?_, answered⟩
  · rw [State.lifeAt, slot, SlotState.sealed_life, ← State.lifeAt, life]
  · rw [State.bodyAt, slot, SlotState.sealed_body, State.bodyAt]
  · rw [State.intactAt, slot, SlotState.sealed_intact]
  · rw [slots, State.check_other s i j other]
  · rw [store, State.check_store_lists]
  · rw [au, State.check_of_quarantined life broken]
    rfl
  · rw [ru, State.check_of_quarantined life broken]
    rfl
  · refine State.finishClaim_refused_sc o (s.check_sc i) (s.check_store_lists i) fun j => ?_
    rw [State.check_of_quarantined life broken, State.renewed_slotAt]
    split
    case isTrue same =>
      rw [← same]
      exact SlotState.Alike.sealed (s.slotAt i) i
    case isFalse => exact .refl _

/-- R15: a claim whose LOST record fails its check leaves it in the LOST form and is refused. -/
theorem refused_of_mismatchLost (hq : s.Serves q c) (life : s.lifeAt i = .lost) (broken : s.intactAt i = false)
    (o : OutcomeCode) :
    let t := s.finishClaim (.refused (s.check i) o)
    t.lifeAt i = .lost ∧ t.bodyAt i = Body.absent ∧ (t.slotAt i).generation = (s.slotAt i).generation
      ∧ t.intactAt i = true ∧ (∀ j, j ≠ i → t.slotAt j = s.slotAt j) ∧ t.store.lists = s.store.lists
      ∧ t.au = s.au ∧ t.ru = s.ru ∧ t.sc = s.sc ∧ t.Answered q o [] := by
  intro t
  obtain ⟨slots, store, au, ru, answered⟩ := State.refused_effect (u := s.check i) hq o (s.check_re i)
  have slot : t.slotAt i = lostForm i (s.slotAt i).generation (s.slotAt i).counter := by
    rw [slots, State.check_of_lost life broken, State.setSlot_slotAt_self]
  refine ⟨?_, ?_, ?_, ?_, fun j other => ?_, ?_, ?_, ?_, ?_, answered⟩
  · rw [State.lifeAt, slot, lostForm, SlotState.sealed_life]
  · rw [State.bodyAt, slot, lostForm, SlotState.sealed_body]
  · rw [slot, lostForm, SlotState.sealed_generation]
  · rw [State.intactAt, slot, lostForm_intact]
  · rw [slots, State.check_other s i j other]
  · rw [store, State.check_store_lists]
  · rw [au, State.check_of_lost life broken]
    rfl
  · rw [ru, State.check_of_lost life broken]
    rfl
  · refine State.finishClaim_refused_sc o (s.check_sc i) (s.check_store_lists i) fun j => ?_
    rw [State.check_of_lost life broken, State.setSlot_slotAt]
    split
    case isTrue same =>
      rw [← same]
      refine SlotState.Alike.of_life ?_ ?_
      · rw [lostForm, SlotState.sealed_life]
        rfl
      · rw [← State.lifeAt, life]
        rfl
    case isFalse => exact .refl _

/-- A claim whose first checks are those of R32, R34, R56, R59, R60 and R96 refuses an unfit record as they do. -/
theorem refusesUnfit_of_named (hw : s.wholeClaim c = some (command, t)) (hq : s.Serves q c) (ht : s.storeTakes = true)
    (resolved : s.resolve h = some i) (refused : ∀ u o, s.named h = .refused u o → t = .refused u o) :
    RefusesUnfit s q i command := by
  have runs {u : State} {o : OutcomeCode} (found : s.named h = .refused u o) :
      exec command s = .next (s.finishClaim (.refused u o)) := by
    rw [exec_of_wholeClaim hw hq ht, refused u o found]
  have quarantined {held : Held} (life : s.lifeAt i = .quarantined held) :
      s.named h = .refused (s.check i) .integrity := by simp [State.named, resolved, life]
  have lost (life : s.lifeAt i = .lost) : s.named h = .refused (s.check i) .wrongState := by
    simp [State.named, resolved, life]
  have mismatch (broken : s.intactAt i = false)
      (account : s.lifeAt i = .waiting ∨ s.lifeAt i = .live ∨ s.lifeAt i = .settled) :
      s.named h = .refused (s.check i) .integrity := by
    rcases account with life | life | life <;> simp [State.named, resolved, life, broken]
  refine ⟨fun intact held life => ?_, fun intact life => ?_, fun broken account => ?_, fun broken held life => ?_,
    fun broken life => ?_⟩
  · rw [runs (quarantined life), s.check_of_intact i intact, State.finishClaim_refused hq]
  · rw [runs (lost life), s.check_of_intact i intact, State.finishClaim_refused hq]
  · obtain ⟨held, life⟩ := (isAccountLife_iff_heldLife _).mp account
    exact ⟨_, held, runs (mismatch broken account), refused_of_mismatch hq life broken .integrity⟩
  · exact ⟨_, runs (quarantined life), refused_of_mismatchQuarantined hq life broken .integrity⟩
  · exact ⟨_, runs (lost life), refused_of_mismatchLost hq life broken .wrongState⟩

end Unfit

/-! ## Reading the table -/

/-- The first slot in ascending order that a test finds. -/
theorem find?_slots_eq_some {p : Slot → Bool} {i : Slot} (found : p i = true) (lowest : ∀ j, j < i → p j = false) :
    slots.find? p = some i := by
  rw [slots, List.find?_eq_some_iff_getElem]
  refine ⟨found, i.val, by simp, by simp, fun j hj => ?_⟩
  simpa using lowest ⟨j, by omega⟩ hj

theorem State.settledOrOpen_iff (s : State) (j : Slot) : s.settledOrOpen j = true ↔ isAccountLife (s.lifeAt j) := by
  unfold State.settledOrOpen isAccountLife
  cases s.lifeAt j <;> simp

/-- The slots that carry a reference beside one that does (R19). -/
theorem State.others_eq {s : State} {r : Reference} {i : Slot} (carried : s.carries r i = true) :
    (slots.filter (s.carries r)).length - 1
      = slots.countP fun j => j ≠ i ∧ s.lifeAt j ≠ .free ∧ s.lifeAt j ≠ .lost ∧ (s.bodyAt j).reference = r := by
  have once : (slots.filter (s.carries r)).Nodup := (List.nodup_finRange 32).filter _
  have found : i ∈ slots.filter (s.carries r) := List.mem_filter.mpr ⟨List.mem_finRange i, carried⟩
  rw [← List.length_erase_of_mem found, once.erase_eq_filter, List.filter_filter, ← List.countP_eq_length_filter]
  refine List.countP_congr fun j _ => ?_
  rw [Bool.and_eq_true, State.carries_eq_true_iff, bne_iff_ne, decide_eq_true_iff]

theorem State.carries_of_account {s : State} {r : Reference} {i : Slot} (named : hasReference (s.lifeAt i) = true)
    (same : (s.bodyAt i).reference = r) : s.carries r i = true := by
  rw [State.carries, named, same, Bool.true_and, beq_self_eq_true]

theorem State.lookup_of_found {s : State} {r : Reference} {i : Slot} (unchecked : s.checkCompared slots = s)
    (found : ((slots.filter (s.carries r)).find? s.settledOrOpen).or (slots.filter (s.carries r)).head? = some i) :
    s.lookup r = { state := s, outcome := .ok, payload := s.lookupReport (slots.filter (s.carries r)) i } := by
  unfold State.lookup
  rw [unchecked]
  dsimp only
  rw [found]

theorem State.lookup_of_none {s : State} {r : Reference} (unchecked : s.checkCompared slots = s)
    (nothing : slots.filter (s.carries r) = []) : s.lookup r = .refused s .noSuchAccount := by
  unfold State.lookup
  rw [unchecked]
  dsimp only
  rw [nothing]
  rfl

/-- Over intact records a SURVEY leaves the state as it is (R21). -/
theorem State.survey_of_intact {s : State} (intact : s.IntegrityLaw) (start : Slot) :
    s.survey start
      = { state := s, outcome := .ok
          payload := [count8 (s.surveyed start).length] ++ (s.surveyed start).flatMap s.summaryOf
            ++ [count8 (resumeSlot (s.surveyed start))] } := by
  have unchecked (l : List Slot) : l.foldl State.check s = s := by
    induction l with
    | nil => rfl
    | cons i rest ih => rw [List.foldl_cons, s.check_of_intact i (intact i), ih]
  unfold State.survey
  dsimp only
  rw [unchecked]

/-- The resume slot is one above the last of eight (R21). -/
theorem resumeSlot_take (l : List Slot) :
    resumeSlot (l.take 8)
      = if 8 ≤ l.length then ((l.take 8).getLast?.map fun i => i.val + 1).getD 32 else 32 := by
  unfold resumeSlot
  split_ifs with enough
  · have size : (l.take 8).length = 8 := by rw [List.length_take, Nat.min_eq_left enough]
    rw [List.getLast?_eq_getElem?, size]
    cases (l.take 8)[7]? <;> rfl
  · have beyond : (l.take 8)[7]? = none := List.getElem?_eq_none (by rw [List.length_take]; omega)
    rw [beyond]

/-- Settles O22: records that pass leave every check without effect, and the payload is the report on what is found. -/
theorem tableReadsAnswered : Obligations.TableReadsAnswered := by
  unfold Obligations.TableReadsAnswered
  intro s q ht carries account others
  have carries_iff (r : Reference) (j : Slot) : s.carries r j = true ↔ carries r j := s.carries_eq_true_iff r j
  have unchecked (intact : s.IntegrityLaw) : s.checkCompared slots = s :=
    s.checkCompared_eq_of_intact slots fun j _ => intact j
  refine ⟨fun h i hq resolved intact => ?_, fun r i hq intact isAccount same unique => ?_,
    fun r i held hq intact life same noAccount lowest => ?_, fun r hq intact none => ?_, fun start hq intact => ?_⟩
  · have read : s.readAccount h = { state := s, outcome := .ok, payload := serialise i (s.slotAt i) } := by
      simp [State.readAccount, resolved, intact, s.check_of_intact i intact]
    rw [exec_of_wholeClaim rfl hq ht, read, State.finishClaim_unchanged hq rfl]
  · have carried : s.carries r i = true := State.carries_of_account (hasReference_of_isAccountLife isAccount) same
    have found : (slots.filter (s.carries r)).find? s.settledOrOpen = some i := by
      cases first : (slots.filter (s.carries r)).find? s.settledOrOpen with
      | none =>
        have missed := List.find?_eq_none.mp first i (List.mem_filter.mpr ⟨List.mem_finRange i, carried⟩)
        exact absurd ((s.settledOrOpen_iff i).mpr isAccount) missed
      | some j =>
        have open_ := (s.settledOrOpen_iff j).mp (List.find?_some first)
        have carriedToo := (List.mem_filter.mp (List.mem_of_find?_eq_some first)).2
        by_contra other
        exact unique j (fun e => other (congrArg some e)) ((carries_iff r j).mp carriedToo) open_
    have held : heldCode (s.lifeAt i) = 0#8 := by rcases isAccount with life | life | life <;> rw [life] <;> rfl
    rw [exec_of_wholeClaim rfl hq ht, State.lookup_of_found (unchecked intact) (by rw [found]; rfl),
      State.finishClaim_unchanged hq rfl, State.lookupReport, State.others_eq carried, held]
  · have carried : s.carries r i = true := State.carries_of_account (by rw [life]; rfl) same
    have noneFound : (slots.filter (s.carries r)).find? s.settledOrOpen = none := by
      rw [List.find?_eq_none]
      intro j hj
      rw [State.settledOrOpen_iff]
      exact noAccount j ((carries_iff r j).mp (List.mem_filter.mp hj).2)
    have first : (slots.filter (s.carries r)).head? = some i := by
      rw [List.head?_filter]
      refine find?_slots_eq_some carried fun j below => ?_
      rw [← Bool.not_eq_true, carries_iff]
      exact lowest j below
    rw [exec_of_wholeClaim rfl hq ht, State.lookup_of_found (unchecked intact) (by rw [noneFound]; exact first),
      State.finishClaim_unchanged hq rfl, State.lookupReport, State.others_eq carried, life]
    cases held <;> rfl
  · have nothing : slots.filter (s.carries r) = [] := by
      rw [List.filter_eq_nil_iff]
      intro j _
      rw [carries_iff]
      exact none j
    rw [exec_of_wholeClaim rfl hq ht, State.lookup_of_none (unchecked intact) nothing, State.finishClaim_refused hq]
  · intro inUse taken resume
    have surveyed : s.surveyed start = taken := by
      refine congrArg (List.take 8) (List.filter_congr fun j _ => ?_)
      rw [Bool.eq_iff_iff]
      simp
    rw [exec_of_wholeClaim rfl hq ht, State.survey_of_intact intact, State.finishClaim_unchanged hq rfl, surveyed,
      resumeSlot_take]

/-! ## Quarantine on a mismatch -/

/-- Outside the drain a bar changes the queue and the barred set alone (R127, R137). -/
theorem Retention.bar_of_power {r : Retention} (power : r.power ≠ .draining) (i : Slot) :
    r.bar i = { r with queue := r.queue.erase (.account i), barred := r.barred.set i true } := by
  unfold Retention.bar
  rcases Retention.drainComplete_cases
    { r with queue := r.queue.erase (.account i), barred := r.barred.set i true } with same | ⟨draining, -⟩
  · exact same
  · exact absurd draining power

/-- A quarantine leaves every occupant, and so changes the view of the channel that a LIVE account occupied (R25, R28). -/
theorem State.viewOf_quarantine {s : State} {i : Slot} {held : Held} (life : s.lifeAt i = heldLife held) (n : Channel) :
    (s.quarantine i held).viewOf n
      = if s.occupant n = some i ∧ held = .live then .quarantined else s.viewOf n := by
  have slot (j : Slot) : (s.quarantine i held).lifeAt j = if i = j then .quarantined held else s.lifeAt j := by
    rw [State.lifeAt, State.quarantine_slotAt]
    split <;> rfl
  have occupancy (j : Slot) : occupies ((s.quarantine i held).lifeAt j) = occupies (s.lifeAt j) := by
    rw [slot]
    split
    case isTrue same =>
      rw [← same, life]
      cases held <;> rfl
    case isFalse => rfl
  have occupant : (s.quarantine i held).occupant n = s.occupant n := by
    have list : (s.quarantine i held).listAt n = s.listAt n := rfl
    unfold State.occupant
    rw [list]
    cases s.listAt n with
    | nil => rfl
    | cons hd tl => simp only [occupancy]
  cases before : s.occupant n with
  | none =>
    rw [if_neg (fun h => absurd h.1 nofun), State.viewOf_of_vacant before,
      State.viewOf_of_vacant (occupant.trans before)]
  | some k =>
    by_cases same : k = i
    · subst same
      have live : held = .live := by
        have occupied := State.occupies_of_occupant before
        rw [life] at occupied
        cases held <;> simp_all [heldLife, occupies]
      rw [if_pos ⟨rfl, live⟩, State.viewOf_of_not_live (occupant.trans before) (by rw [slot, if_pos rfl]; nofun)]
    · rw [if_neg (fun h => same (Option.some.inj h.1))]
      refine State.viewOf_eq_of_head rfl fun hd tl places => ?_
      have first : slotOf hd = k := by
        obtain ⟨hd', tl', places', first, -⟩ := State.occupant_eq_some_iff.mp before
        rw [places] at places'
        obtain ⟨rfl, rfl⟩ := List.cons.inj places'
        exact first
      rw [first, State.quarantine_slotAt, if_neg (fun e => same e.symm)]
      exact .refl _

/-- Settles O23: the check quarantines the record, and the claim ends with the notice of a channel that it occupied. -/
theorem mismatchQuarantines : Obligations.MismatchQuarantines := by
  unfold Obligations.MismatchQuarantines
  intro s q h i held hq ht resolved broken life power
  have life : s.lifeAt i = heldLife held := life
  have unlost : (s.lifeAt i == .lost) = false := by rw [life]; cases held <;> rfl
  have read : s.readAccount h
      = { state := s.quarantine i held, outcome := .integrity
          payload := serialise i ((s.quarantine i held).slotAt i) } := by
    simp [State.readAccount, resolved, broken, unlost, State.check_of_account life broken]
  have slots (j : Slot) : (s.finishClaim (s.readAccount h)).slotAt j = (s.quarantine i held).slotAt j := by
    rw [State.finishClaim_slotAt, read]
  have slot : (s.finishClaim (s.readAccount h)).slotAt i
      = SlotState.sealed { s.slotAt i with life := .quarantined held } i := by
    rw [slots, State.quarantine_slotAt, if_pos rfl]
  have store : (s.finishClaim (s.readAccount h)).store
      = (s.putRecord i { s.slotAt i with life := .quarantined held }).store := by
    rw [State.finishClaim_store, read, State.quarantine_store]
  have controllers (n : Channel) := State.finishClaim_scAt (s := s) (t := s.readAccount h) n
  rw [read] at controllers
  dsimp only at controllers
  have answered := State.finishClaim_answered (t := s.readAccount h) hq (by rw [read]; exact State.quarantine_re s i held)
  refine ⟨s.finishClaim (s.readAccount h), exec_of_wholeClaim rfl hq ht, ?_, ?_, ?_, ?_, ?_, fun j other => ?_, ?_, ?_, ?_, ?_,
    fun n => ?_, fun n => ?_, ?_, ?_, ?_, ?_, ?_, ?_, ?_, ?_⟩
  · rw [State.lifeAt, slot, SlotState.sealed_life]
  · rw [State.bodyAt, slot, SlotState.sealed_body, State.bodyAt]
  · rw [State.intactAt, slot, SlotState.sealed_intact]
  · rw [slot, SlotState.sealed_generation]
  · rw [slot, SlotState.sealed_counter]
  · rw [slots, State.quarantine_slotAt, if_neg other.symm]
  · rw [store, State.putRecord_lists]
  · rw [State.finishClaim_au, read]
    rfl
  · rw [State.finishClaim_ru, read]
    exact Retention.bar_of_power (r := s.ru) (by rw [power]; decide) i
  · rw [slots]
    rw [read] at answered ⊢
    exact answered
  · rw [read, controllers, State.viewOf_quarantine life]
    have unmoved : ((s.quarantine i held).scAt n).notices = (s.scAt n).notices := by
      rw [scAt_congr (s.quarantine_sc i held)]
    dsimp only
    rw [unmoved]
    by_cases occupied : s.occupant n = some i ∧ held = .live
    · obtain ⟨occupant, rfl⟩ := occupied
      have seen := State.viewOf_of_live occupant life
      simp [occupant, seen]
    · rw [if_neg occupied, if_neg occupied, if_pos rfl]
  · rw [read, controllers]
    rfl
  · rw [store, State.putRecord_openSerial]
  · rw [store, State.putRecord_billing]
  · rw [State.finishClaim_cq, read, State.quarantine_cq]
  · rw [State.finishClaim_le, read, State.quarantine_le]
  · rw [State.finishClaim_tu, read, State.quarantine_tu]
  · rw [State.finishClaim_hl, read, State.quarantine_hl]
  · rw [State.finishClaim_pins, read, State.quarantine_pins]
  · rw [State.finishClaim_pending, read, State.quarantine_pending]

/-! ## OPEN refused -/

theorem State.freeSlot_eq_none {s : State} (full : ∀ j, s.lifeAt j ≠ .free) : s.freeSlot = none := by
  rw [State.freeSlot, List.find?_eq_none]
  intro j _
  simpa using full j

theorem State.freeSlot_isSome {s : State} (room : ¬∀ j, s.lifeAt j ≠ .free) : ∃ i, s.freeSlot = some i := by
  push Not at room
  obtain ⟨j, free⟩ := room
  refine Option.isSome_iff_exists.mp (List.find?_isSome.mpr ⟨j, List.mem_finRange j, ?_⟩)
  simp [free]

/-- Settles O25: over intact records the checks of OPEN change nothing, and each refusal is its answer alone. -/
theorem openRefusedInOrder : Obligations.OpenRefusedInOrder := by
  unfold Obligations.OpenRefusedInOrder
  intro s q a hq ht intact full last taken
  have unchanged : s.checkCompared slots = s := s.checkCompared_eq_of_intact slots fun j _ => intact j
  have carried : slots.any (s.carries a.reference) = true ↔ taken := by
    rw [List.any_eq_true]
    simp [State.carries_eq_true_iff, slots, taken]
  have refused {o : OutcomeCode} (found : s.openAccount a = .refused s o) :
      exec .openAccount s = .next (s.answering q o []) := by
    rw [exec_of_wholeClaim rfl hq ht, found, State.finishClaim_refused hq]
  refine ⟨fun noFree => refused ?_, fun room limit => refused ?_, fun room below repeated => refused ?_,
    fun room below unique crowded => refused ?_⟩
  · rw [State.openAccount, State.freeSlot_eq_none noFree]
  all_goals
    obtain ⟨i, allocated⟩ := State.freeSlot_isSome room
    rw [State.openAccount, allocated]
    dsimp only
    have limitIff : s.store.openSerial = serialLimit ↔ last := Iff.rfl
    rw [unchanged]
  · rw [if_pos (limitIff.mpr limit)]
  · rw [if_neg (limitIff.not.mpr below), if_pos (carried.mpr repeated)]
  · rw [if_neg (limitIff.not.mpr below), if_neg (fun h => unique (carried.mp h))]
    exact if_pos crowded

/-! ## RELEASE -/

/-- A slot in the FREE form (R5). -/
theorem freeForm_spec (i : Slot) (counter : Generation) :
    (freeForm i counter).life = .free ∧ (freeForm i counter).generation = 0#11
      ∧ (freeForm i counter).counter = counter ∧ (freeForm i counter).body = Body.absent := by
  rw [freeForm, SlotState.sealed_life, SlotState.sealed_generation, SlotState.sealed_counter, SlotState.sealed_body]
  exact ⟨rfl, rfl, rfl, rfl⟩

theorem State.freeSlotAt_slotAt (s : State) (i j : Slot) :
    (s.freeSlotAt i).slotAt j = if i = j then freeForm i (s.slotAt i).counter else s.slotAt j :=
  s.setSlot_slotAt i j _

/-- The handle of a slot that has been freed resolves no more (R3). -/
theorem State.resolve_of_free {s : State} {h : Handle} (free : s.lifeAt (slotOf h) = .free) : s.resolve h = none := by
  rw [State.resolve, if_neg]
  exact fun passes => passes.2.1 free

theorem State.slotOf_of_resolve {s : State} {h : Handle} {i : Slot} (resolved : s.resolve h = some i) : slotOf h = i := by
  unfold State.resolve at resolved
  split at resolved
  · exact Option.some.inj resolved
  · exact absurd resolved nofun

/-- Settles O27: the slot is freed as one change of the Store, and as a settled account occupies no channel no notice
follows. -/
theorem releaseFreesTheSlot : Obligations.ReleaseFreesTheSlot := by
  unfold Obligations.ReleaseFreesTheSlot
  intro s q h i hq ht resolved settled intact
  have released : s.release h
      = { state := s.freeSlotAt i, outcome := .ok
          payload := le32 (s.bodyAt i).balance ++ le32 (s.bodyAt i).closingBalance } := by
    simp [State.release, State.named, resolved, settled, intact]
  have slots (j : Slot) : (s.finishClaim (s.release h)).slotAt j
      = if i = j then freeForm i (s.slotAt i).counter else s.slotAt j := by
    rw [State.finishClaim_slotAt, released, State.freeSlotAt_slotAt]
  have slot : (s.finishClaim (s.release h)).slotAt i = freeForm i (s.slotAt i).counter := by rw [slots, if_pos rfl]
  obtain ⟨life, generation, counter, body⟩ := freeForm_spec i (s.slotAt i).counter
  have answered := State.finishClaim_answered (t := s.release h) hq (by rw [released]; rfl)
  have alike (j : Slot) : ((s.freeSlotAt i).slotAt j).Alike (s.slotAt j) := by
    rw [State.freeSlotAt_slotAt]
    split
    case isTrue same =>
      subst same
      refine SlotState.Alike.of_life (by rw [life]; rfl) ?_
      rw [← State.lifeAt, settled]
      rfl
    case isFalse => exact .refl _
  have views (n : Channel) : (s.freeSlotAt i).viewOf n = s.viewOf n :=
    State.viewOf_eq_of_head rfl fun hd _ _ => alike (slotOf hd)
  refine ⟨s.finishClaim (s.release h), exec_of_wholeClaim rfl hq ht, ?_, ?_, ?_, ?_, ?_, ?_, fun j other => ?_, ?_, ?_, ?_, ?_,
    ?_, ?_, ?_, ?_, ?_, ?_⟩
  · rw [State.lifeAt, slot, life]
  · rw [slot, generation]
  · rw [slot, counter]
  · rw [State.bodyAt, slot, body]
  · rw [State.intactAt, slot, freeForm_intact]
  · refine State.resolve_of_free ?_
    rw [State.slotOf_of_resolve resolved, State.lifeAt, slot, life]
  · rw [slots, if_neg other.symm]
  · rw [State.finishClaim_store, released]
    rfl
  · rw [State.finishClaim_store, released]
    rfl
  · rw [State.finishClaim_au, released]
    rfl
  · rw [State.finishClaim_ru, released]
    rfl
  · rw [released]
    exact State.finishClaim_sc rfl views
  · rw [State.finishClaim_cq, released]
    rfl
  · rw [State.finishClaim_le, released]
    rfl
  · rw [State.finishClaim_tu, released]
    rfl
  · rw [State.finishClaim_hl, released]
    rfl
  · rw [released] at answered ⊢
    exact answered

end Sys2Proof.Machine
end

section
/-! Proofs about credit: the arithmetic of a charge (R46), the refusals of TOP_UP (R56), ADJUST (R59), SET_LIMITS (R60,
R61), the quantum debit (R52), the levy claim (R77) and the billing of unbilled energy (R96, R97). -/

set_option Elab.async false

namespace Sys2Proof.Machine

/-! ## The arithmetic of a charge -/

/-- What the fields of a record can hold after a charge stands in their widths. -/
theorem Body.charged_fields (b : Body) {amount : Nat} (quanta : Nat) (small : amount ≤ 4294836225) :
    (b.charged amount quanta).debited.toNat = min (b.debited.toNat + amount) totalMax
      ∧ (b.charged amount quanta).balance.toInt = max (b.balance.toInt - amount) balMin := by
  constructor
  · show (BitVec.ofNat 48 (min (b.debited.toNat + amount) totalMax)).toNat = _
    rw [BitVec.toNat_ofNat]
    exact Nat.mod_eq_of_lt (lt_of_le_of_lt (Nat.min_le_right _ _) (by decide))
  · show (BitVec.ofInt 32 (max (b.balance.toInt - amount) balMin)).toInt = _
    have below : b.balance.toInt < 2 ^ 31 := by have := BitVec.toInt_lt (x := b.balance); simpa using this
    rw [BitVec.toInt_ofInt, Int.bmod_def, balMin]
    omega

theorem Body.clamps_iff (b : Body) (amount : Nat) :
    b.clamps amount = true ↔ b.debited.toNat + amount > 2 ^ 48 - 1 ∨ b.balance.toInt - amount < -2000000000 := by
  rw [Body.clamps, Bool.or_eq_true, decide_eq_true_iff, decide_eq_true_iff]
  rfl

theorem or_one_getLsbD_zero (x : Byte) : (x ||| 1#8).getLsbD 0 = true := by simp

theorem or_one_masked (x : Byte) : (x ||| 1#8) &&& 0xFE#8 = x &&& 0xFE#8 := by
  rw [BitVec.and_or_distrib_right]
  simp

/-- Settles O32: the clamps are the two bounds of the record, and a clamp sets bit 0 of the flags alone. -/
theorem chargeArithmetic : Obligations.ChargeArithmetic := by
  unfold Obligations.ChargeArithmetic
  intro b amount quanta small x clamped
  obtain ⟨total, balance⟩ := b.charged_fields quanta small
  have clamps : b.clamps amount = clamped := by
    rw [Bool.eq_iff_iff, Body.clamps_iff]
    exact decide_eq_true_iff.symm
  have flags : x.flags = if clamped then b.flags ||| 1#8 else b.flags := by rw [← clamps]; rfl
  refine ⟨total, balance, ?_, ?_, ?_, rfl, fun zero above => ?_, rfl⟩
  · show (b.quanta + BitVec.ofNat 32 quanta).toNat = _
    rw [BitVec.toNat_add, BitVec.toNat_ofNat, Nat.add_mod_mod]
  · rw [Body.saturated, flags]
    cases clamped <;> simp [Body.saturated]
  · rw [flags]
    cases clamped
    · rfl
    · exact or_one_masked b.flags
  · subst zero
    have unclipped := b.debited.isLt
    constructor
    · refine BitVec.eq_of_toInt_eq (balance.trans ?_)
      rw [balMin]
      omega
    · refine BitVec.eq_of_toNat_eq (total.trans ?_)
      rw [totalMax]
      omega

/-! ## The refusals of TOP_UP -/

/-- A claim that is refused at a record without touching it is its answer alone. -/
theorem exec_of_answer {s : State} {q : Request} {c : Claim} {command : Instr} {t : Taken}
    (hw : s.wholeClaim c = some (command, t)) (hq : s.Serves q c) (ht : s.storeTakes = true) {o : OutcomeCode}
    {p : List Byte} (found : t = { state := s, outcome := o, payload := p }) :
    exec command s = .next (s.answering q o p) := by
  rw [exec_of_wholeClaim hw hq ht, found, State.finishClaim_unchanged hq rfl]

theorem State.named_of_account {s : State} {h : Handle} {i : Slot} (resolved : s.resolve h = some i)
    (intact : s.intactAt i = true) (account : isAccountLife (s.lifeAt i)) : s.named h = .found i := by
  rcases account with life | life | life <;> simp [State.named, resolved, life, intact]

theorem staleVersion_of_ne {expected : Option (BitVec 16)} {b : Body} {v : BitVec 16} (given : expected = some v)
    (differs : v ≠ b.version) : staleVersion expected b = true := by
  rw [given]
  exact bne_iff_ne.mpr differs

theorem unsettled_of_open {s : State} {i : Slot} (isOpen : s.lifeAt i = .live ∨ s.lifeAt i = .waiting) :
    s.lifeAt i ≠ .settled := by rcases isOpen with life | life <;> rw [life] <;> nofun

/-- Settles O34: the checks of R56 in their order, each refusing before the next is asked. -/
theorem topUpRefusedInOrder : Obligations.TopUpRefusedInOrder := by
  unfold Obligations.TopUpRefusedInOrder
  intro s q a hq ht
  refine ⟨fun unresolved => exec_of_unresolved rfl rfl ht unresolved hq, fun i resolved => ?_⟩
  dsimp only
  have refused {o : OutcomeCode} {p : List Byte} : s.topUp a = { state := s, outcome := o, payload := p } →
      exec .topUp s = .next (s.answering q o p) := exec_of_answer rfl hq ht
  refine ⟨refusesUnfit_of_named rfl hq ht resolved fun u o found => ?_, fun intact settled => refused ?_,
    fun intact isOpen repeated => refused ?_, fun intact isOpen fresh => ⟨fun v given differs => refused ?_,
      fun current beyond => refused ?_⟩⟩
  · simp only [State.topUp, found]
  · simp [State.topUp, State.named_of_account resolved intact (.inr (.inr settled)), settled, Taken.refused]
  · simp [State.topUp, State.named_of_open resolved intact isOpen, unsettled_of_open isOpen, repeated]
  · simp [State.topUp, State.named_of_open resolved intact isOpen, unsettled_of_open isOpen, fresh,
      staleVersion_of_ne given differs, Taken.stale]
  · have unfit : (s.bodyAt i).topUpFits a.amount = false := by
      rw [← Bool.not_eq_true, Body.topUpFits_iff]
      intro fits
      omega
    simp [State.topUp, State.named_of_open resolved intact isOpen, unsettled_of_open isOpen, fresh,
      (staleVersion_eq_false_iff _ _).mpr current, unfit, Taken.refused]

/-! ## ADJUST -/

theorem ofInt_natCast_add {w : Nat} (x : BitVec w) (v : Int) : BitVec.ofInt w (x.toNat + v) = x + BitVec.ofInt w v := by
  rw [BitVec.ofInt_add, BitVec.ofInt_natCast, BitVec.ofNat_toNat, BitVec.setWidth_eq]

/-- A total moves by the part of an adjustment that is above 0 (R59). -/
theorem ofInt_add_max (x : BitVec 48) (v : Int) :
    BitVec.ofInt 48 (x.toNat + max v 0) = if v > 0 then x + BitVec.ofInt 48 v else x := by
  rw [ofInt_natCast_add]
  split
  case isTrue positive => rw [max_eq_left (le_of_lt positive)]
  case isFalse other =>
    rw [max_eq_right (not_lt.mp other)]
    simp

/-- The sums of R59 stand in the widths of their fields. -/
theorem Body.adjusted_eq (b : Body) (amount : BitVec 32) :
    b.adjusted amount
      = { b with
          balance := BitVec.ofInt 32 (b.balance.toInt + amount.toInt)
          credited := BitVec.ofInt 48 (b.credited.toNat + max amount.toInt 0)
          debited := BitVec.ofInt 48 (b.debited.toNat + max (-amount.toInt) 0)
          version := b.version + 1#16 } := by
  have balance : BitVec.ofInt 32 (b.balance.toInt + amount.toInt) = b.balance + amount := by
    rw [BitVec.ofInt_add, BitVec.ofInt_toInt, BitVec.ofInt_toInt]
  have down : (-amount.toInt > 0) = (amount.toInt < 0) := propext (by omega)
  rw [balance, ofInt_add_max, ofInt_add_max, Body.adjusted]
  simp only [down]

/-- Each total takes only the part of its own sign, so the limits of R59 are those of the sums that it makes. -/
theorem Body.adjustFits_iff_max (b : Body) (amount : BitVec 32) :
    b.adjustFits amount = true ↔
      -2000000000 ≤ b.balance.toInt + amount.toInt ∧ b.balance.toInt + amount.toInt ≤ 2000000000
        ∧ b.credited.toNat + max amount.toInt 0 ≤ 2 ^ 48 - 1 ∧ b.debited.toNat + max (-amount.toInt) 0 ≤ 2 ^ 48 - 1 := by
  have credited := b.credited.isLt
  have debited := b.debited.isLt
  rw [Body.adjustFits_iff, balMin, balMax, totalMax]
  omega

/-- Settles O35: an ADJUST that passes ends as every change of a record does; else its first failing check refuses it. -/
theorem adjustMovesTheBalance : Obligations.AdjustMovesTheBalance := by
  unfold Obligations.AdjustMovesTheBalance
  intro s q a i
  dsimp only
  intro hq ht resolved
  have refused {o : OutcomeCode} {p : List Byte} : s.adjust a = { state := s, outcome := o, payload := p } →
      exec .adjust s = .next (s.answering q o p) := exec_of_answer rfl hq ht
  refine ⟨fun intact isOpen current fits => ?_, refusesUnfit_of_named rfl hq ht resolved fun u o found => ?_,
    fun intact settled => refused ?_, fun intact isOpen stale => refused ?_,
    fun intact isOpen current _ beyond => refused ?_⟩
  · rw [← Body.adjustFits_iff_max] at fits
    rw [← Body.adjusted_eq (s.bodyAt i) a.amount]
    have taken : s.adjust a
        = { state := s.conclude i ((s.bodyAt i).adjusted a.amount) (decide (0 < a.amount.toInt))
            outcome := .ok
            payload := (s.conclude i ((s.bodyAt i).adjusted a.amount) (decide (0 < a.amount.toInt))).creditPayload i } := by
      simp [State.adjust, State.named_of_open resolved intact isOpen, unsettled_of_open isOpen, current, fits]
    have concludes : (s.adjust a).state = s.conclude i ((s.bodyAt i).adjusted a.amount) (decide (0 < a.amount.toInt)) :=
      congrArg Taken.state taken
    obtain ⟨body, store, billing, handOffs, fields, dirtied, raised, answered⟩ :=
      State.finishClaim_of_concludes hq concludes
    refine ⟨s.finishClaim (s.adjust a), exec_of_wholeClaim rfl hq ht, body, store, billing, handOffs, fields, dirtied,
      raised, ?_⟩
    have written : (s.finishClaim (s.adjust a)).store = (s.conclude i _ (decide (0 < a.amount.toInt))).store :=
      (s.finishClaim_store _).trans (congrArg State.store concludes)
    have balance := congrArg Body.balance (Body.adjusted_eq (s.bodyAt i) a.amount)
    have payload := congrArg Taken.payload taken
    rw [State.conclude_creditPayload isOpen, balance, ← bodyAt_congr written] at payload
    rw [congrArg Taken.outcome taken, payload] at answered
    exact answered
  · simp only [State.adjust, found]
  · simp [State.adjust, State.named_of_account resolved intact (.inr (.inr settled)), settled, Taken.refused]
  · simp [State.adjust, State.named_of_open resolved intact isOpen, unsettled_of_open isOpen, stale, Taken.stale]
  · rw [← Body.adjustFits_iff_max, Bool.not_eq_true] at beyond
    simp [State.adjust, State.named_of_open resolved intact isOpen, unsettled_of_open isOpen, current, beyond,
      Taken.refused]

/-! ## SET_LIMITS -/

/-- Settles O36: a SET_LIMITS that passes ends as every change of a record does; else its first failing check refuses
it. -/
theorem setLimitsWrites : Obligations.SetLimitsWrites := by
  unfold Obligations.SetLimitsWrites
  intro s q a i
  dsimp only
  intro hq ht resolved
  have refused {o : OutcomeCode} {p : List Byte} : s.setLimits a = { state := s, outcome := o, payload := p } →
      exec .setLimits s = .next (s.answering q o p) := exec_of_answer rfl hq ht
  refine ⟨fun intact isOpen current => ?_, refusesUnfit_of_named rfl hq ht resolved fun u o found => ?_,
    fun intact settled => refused ?_, fun intact isOpen v given differs => refused ?_⟩
  · have fresh := (staleVersion_eq_false_iff _ _).mpr current
    have taken : s.setLimits a
        = { state := s.conclude i ((s.bodyAt i).limited a) false
            outcome := .ok
            payload := le16 ((s.conclude i ((s.bodyAt i).limited a) false).bodyAt i).version
              ++ (s.conclude i ((s.bodyAt i).limited a) false).creditBytes i } := by
      simp [State.setLimits, State.named_of_open resolved intact isOpen, unsettled_of_open isOpen, fresh]
    have concludes : (s.setLimits a).state = s.conclude i ((s.bodyAt i).limited a) false := congrArg Taken.state taken
    obtain ⟨body, store, billing, handOffs, fields, dirtied, raised, answered⟩ :=
      State.finishClaim_of_concludes hq concludes
    refine ⟨s.finishClaim (s.setLimits a), exec_of_wholeClaim rfl hq ht, body, store, billing, handOffs, fields, dirtied,
      raised, ?_⟩
    have written : (s.finishClaim (s.setLimits a)).store = (s.conclude i ((s.bodyAt i).limited a) false).store :=
      (s.finishClaim_store _).trans (congrArg State.store concludes)
    have kept : (s.conclude i ((s.bodyAt i).limited a) false).lifeAt i = s.lifeAt i :=
      (s.conclude_storeFrame i _ false).life
    have payload := congrArg Taken.payload taken
    rw [State.creditBytes_of_open (kept ▸ isOpen), kept,
      State.conclude_bodyAt_keeps Body.version s i ((s.bodyAt i).limited a) false rfl rfl, ← bodyAt_congr written] at payload
    rw [congrArg Taken.outcome taken, payload] at answered
    exact answered
  · simp only [State.setLimits, found]
  · simp [State.setLimits, State.named_of_account resolved intact (.inr (.inr settled)), settled, Taken.refused]
  · simp [State.setLimits, State.named_of_open resolved intact isOpen, unsettled_of_open isOpen,
      staleVersion_of_ne given differs, Taken.stale]

end Sys2Proof.Machine
end

section
/-! Proofs about the claims that charge: the quantum debit (R52), the levy claim (R77) and the billing of unbilled energy
(R96, R97). -/

set_option Elab.async false

namespace Sys2Proof.Machine

/-! ## What a charge hands off -/

/-- The raise of SATURATED by a charge that sets it (R46). -/
def saturatedMessages (i : Slot) (start found : Body) : List AttentionMessage :=
  if found.saturated = true ∧ start.saturated = false then [.raised .store (.slot i .saturated)] else []

section Charge

variable {s : State} {i : Slot} {b : Body} {amount quanta : Nat}

/-- A charge ends as every change of a record does, and raises SATURATED where it sets it (R46, R47). -/
theorem State.charge_eq (s : State) (i : Slot) (b : Body) (amount quanta : Nat) :
    s.charge i b amount quanta
      = (s.conclude i (b.charged amount quanta) false).setAu
          { (s.conclude i (b.charged amount quanta) false).au with
            inbox := (s.conclude i (b.charged amount quanta) false).au.inbox
              ++ saturatedMessages i b (b.charged amount quanta) } := by
  simp only [State.charge, saturatedMessages, Bool.not_eq_true']
  split
  · rfl
  · rw [List.append_nil]
    rfl

theorem State.charge_store : (s.charge i b amount quanta).store = (s.conclude i (b.charged amount quanta) false).store := by
  rw [State.charge_eq]
  rfl

theorem State.charge_ru :
    (s.charge i b amount quanta).ru = { s.ru with inbox := s.ru.inbox ++ [(.store, .account i)] } := by
  rw [State.charge_eq]
  exact s.conclude_ru i _ false

theorem State.charge_bodyAt_self :
    (s.charge i b amount quanta).bodyAt i
      = if s.lifeAt i = .live then (b.charged amount quanta).evaluated false
        else (b.charged amount quanta).stepped false := by
  rw [bodyAt_congr State.charge_store, State.conclude_bodyAt_self]

theorem State.charge_storeFrame : StoreFrame s (s.charge i b amount quanta) i :=
  (s.conclude_storeFrame i _ false).congr State.charge_store

theorem State.charge_onlyHandsOff : s.OnlyHandsOff (s.charge i b amount quanta) := by
  have concluded := s.conclude_onlyHandsOff i (b.charged amount quanta) false
  unfold State.OnlyHandsOff at concluded ⊢
  rw [State.charge_eq, concluded]
  rfl

/-- The messages of a charge: of a LIVE account the cause of a credit state entered, and SATURATED. -/
theorem State.charge_au_inbox :
    (s.charge i b amount quanta).au.inbox
      = s.au.inbox
        ++ ((if s.lifeAt i = .live then
              entryMessages i (s.bodyAt i).credit ((s.charge i b amount quanta).bodyAt i).credit else [])
          ++ saturatedMessages i b (b.charged amount quanta)) := by
  rw [bodyAt_congr State.charge_store, ← List.append_assoc]
  have messages := congrArg Attention.inbox (s.conclude_au i (b.charged amount quanta) false)
  rw [State.charge_eq]
  exact congrArg (· ++ saturatedMessages i b (b.charged amount quanta)) messages

end Charge

/-! ## The end of a field claim -/

/-- What a field claim that charges the LIVE account of slot i leaves, before its result is sent back (R18, R47). -/
theorem State.charge_sendNotices_effect {s : State} {i : Slot} (b : Body) (amount quanta : Nat)
    (live : s.lifeAt i = .live) :
    let u := (s.charge i b amount quanta).sendNotices s
    u.bodyAt i = (b.charged amount quanta).evaluated false
      ∧ StoreFrame s u i ∧ u.store.billing = s.store.billing ∧ HandOffFrame s u
      ∧ u.cq = s.cq ∧ u.le = s.le ∧ u.re = s.re ∧ (∀ m, (u.scAt m).engage = (s.scAt m).engage)
      ∧ u.ru.inbox = s.ru.inbox ++ [(.store, .account i)]
      ∧ u.au.inbox = s.au.inbox
          ++ (entryMessages i (s.bodyAt i).credit (u.bodyAt i).credit
            ++ saturatedMessages i b (b.charged amount quanta)) := by
  intro u
  have store : u.store = (s.charge i b amount quanta).store := State.sendNotices_store _ s
  have body : u.bodyAt i = (s.charge i b amount quanta).bodyAt i := bodyAt_congr store i
  refine ⟨?_, State.charge_storeFrame.congr store, ?_, State.charge_onlyHandsOff.sendNotices_handOffFrame, ?_, ?_, ?_,
    fun m => ?_, ?_, ?_⟩
  · rw [body, State.charge_bodyAt_self, if_pos live]
  · rw [store, State.charge_store_billing]
  · rw [State.sendNotices_cq, State.charge_cq]
  · rw [State.sendNotices_le, State.charge_le]
  · rw [State.sendNotices_re, State.charge_re]
  · rw [State.sendNotices_engage, scAt_congr (State.charge_sc ..)]
  · rw [State.sendNotices_ru, State.charge_ru]
  · rw [State.sendNotices_au, State.charge_au_inbox, if_pos live, body]

/-- What a field claim whose LIVE account fails its check leaves in the Store (R13). -/
theorem State.check_sendNotices_effect {s : State} {i : Slot} (live : s.lifeAt i = .live)
    (broken : s.intactAt i = false) :
    let u := (s.check i).sendNotices s
    u.lifeAt i = .quarantined .live ∧ u.bodyAt i = s.bodyAt i ∧ u.cq = s.cq ∧ u.le = s.le
      ∧ (∀ j, j ≠ i → u.slotAt j = s.slotAt j) ∧ u.store.lists = s.store.lists := by
  intro u
  have store : u.store = (s.check i).store := State.sendNotices_store _ s
  have slot : u.slotAt i = SlotState.sealed { s.slotAt i with life := .quarantined .live } i := by
    rw [slotAt_congr store, State.check_of_live live broken, State.quarantine_slotAt, if_pos rfl]
  refine ⟨?_, ?_, ?_, ?_, fun j other => ?_, ?_⟩
  · rw [State.lifeAt, slot, SlotState.sealed_life]
  · rw [State.bodyAt, slot, SlotState.sealed_body, State.bodyAt]
  · rw [State.sendNotices_cq, State.check_cq]
  · rw [State.sendNotices_le, State.check_le]
  · rw [slotAt_congr store, State.check_other s i j other]
  · rw [store, State.check_store_lists]

/-- The result of a debit claim is within the frame of a claim (R18). -/
theorem HandOffFrame.returnDebit {s t : State} (frame : HandOffFrame s t) (n : Channel) (r : DebitResult) :
    HandOffFrame s (t.returnDebit n r) := ⟨frame.tariffs, frame.retention, frame.attention, frame.notices, frame.supplies,
  frame.link, frame.pins, frame.samples, frame.pending⟩

theorem HandOffFrame.setLe {s t : State} (frame : HandOffFrame s t) (e : LevyEngine) : HandOffFrame s (t.setLe e) :=
  ⟨frame.tariffs, frame.retention, frame.attention, frame.notices, frame.supplies, frame.link, frame.pins, frame.samples,
    frame.pending⟩

theorem Bank.price_of_tariff (bank : Bank) {code : Byte} (tariff : Tariff) (band : Band)
    (named : code = count8 tariff.val) : bank.price code band = bank.prices[tariff][band] := by
  have small : code.toNat = tariff.val := by
    rw [named, count8, BitVec.toNat_ofNat]
    omega
  have valid : code.toNat < 4 := by omega
  rw [Bank.price, dif_pos valid]
  simp only [small]
  rfl

theorem Bank.standingFor_of_tariff (bank : Bank) {code : Byte} (tariff : Tariff) (named : code = count8 tariff.val) :
    bank.standingFor code = bank.standing[tariff] := by
  have small : code.toNat = tariff.val := by
    rw [named, count8, BitVec.toNat_ofNat]
    omega
  have valid : code.toNat < 4 := by omega
  rw [Bank.standingFor, dif_pos valid]
  simp only [small]
  rfl

/-! ## The quantum debit -/

section Debit

variable {s : State} {n : Channel}

theorem exec_quantumDebit_of_due (takes : s.storeTakes = true) (waits : 0 < (s.cqAt n).debits) {u : State}
    {r : DebitResult} (answers : s.quantumDebit n = (u, r)) :
    exec (.quantumDebit n) s = .next (u.returnDebit n r) := by
  have due : s.debitDue n = true := by
    rw [State.debitDue, takes, Bool.true_and]
    exact decide_eq_true waits
  simp only [exec, execQuantumDebit, due, ↓reduceIte, answers]

theorem State.returnDebit_cq {u : State} (kept : u.cq = s.cq) (r : DebitResult) :
    (u.returnDebit n r).cq
      = s.cq.set n { s.cqAt n with debits := (s.cqAt n).debits - 1, results := (s.cqAt n).results ++ [r] } := by
  simp only [State.returnDebit, State.setCq, State.cqAt, kept]

/-- Settles O37: the debit is charged, or refused where there is nothing to charge, or where the record fails its
check. -/
theorem quantumDebitCharges : Obligations.QuantumDebitCharges := by
  unfold Obligations.QuantumDebitCharges
  intro s n
  dsimp only
  intro takes waits
  refine ⟨fun i tariff occupies live intact named => ?_, fun idle => ?_, fun i occupies live broken => ?_⟩
  · have charged : s.quantumDebit n
        = ((s.charge i (s.bodyAt i) (s.tu.active.prices[tariff][s.tu.band]).toNat 1).sendNotices s, .taken) := by
      rw [← Bank.price_of_tariff _ tariff _ named]
      simp [State.quantumDebit, occupies, live, intact, State.priceFor]
    obtain ⟨body, frame, billing, handOffs, cq, le, re, engages, dirtied, raised⟩ :=
      State.charge_sendNotices_effect (s.bodyAt i) (s.tu.active.prices[tariff][s.tu.band]).toNat 1 live
    generalize (s.charge i (s.bodyAt i) (s.tu.active.prices[tariff][s.tu.band]).toNat 1).sendNotices s = u at *
    exact ⟨_, exec_quantumDebit_of_due takes waits charged, body, State.returnDebit_cq cq .taken, frame.congr rfl, billing,
      handOffs.returnDebit n .taken, le, re, engages, dirtied, _, .refl _, raised⟩
  · have refused : s.quantumDebit n = (s, .refused) := by
      unfold State.quantumDebit
      split
      · rfl
      · rename_i i occupies
        rw [if_pos (idle i occupies)]
    rw [exec_quantumDebit_of_due takes waits refused]
    rfl
  · have refused : s.quantumDebit n = ((s.check i).sendNotices s, .refused) := by
      simp [State.quantumDebit, occupies, live, broken]
    obtain ⟨life, body, cq, -, others, lists⟩ := State.check_sendNotices_effect live broken
    generalize (s.check i).sendNotices s = u at *
    exact ⟨_, exec_quantumDebit_of_due takes waits refused, life, body, State.returnDebit_cq cq .refused, others, lists⟩

end Debit

/-! ## The levy claim -/

section Levy

variable {s : State} {c : LevyClaim}

theorem exec_levyClaim_of_waits (takes : s.storeTakes = true) (waits : s.le.claim = some c) {u : State}
    {r : LevyResult} (answers : s.levy c = (u, r)) :
    exec .levyClaim s = .next (u.setLe { u.le with claim := none, result := some r }) := by
  have due : s.levyDue = some c := by rw [State.levyDue, if_pos takes, waits]
  simp only [exec, execLevyClaim, due, answers]

theorem State.levySelects_eq_none (none : ∀ j : Slot, c.cursor ≤ j.val → s.lifeAt j ≠ .live) :
    s.levySelects c.cursor = .none := by
  rw [State.levySelects, List.find?_eq_none]
  intro j _
  simpa using none j

theorem State.levySelects_eq_some {i : Slot} (above : c.cursor ≤ i.val) (live : s.lifeAt i = .live)
    (lowest : ∀ j : Slot, c.cursor ≤ j.val → j < i → s.lifeAt j ≠ .live) : s.levySelects c.cursor = some i := by
  refine find?_slots_eq_some (by simp [above, live]) fun j below => ?_
  rw [← Bool.not_eq_true, Bool.and_eq_true, decide_eq_true_iff, beq_iff_eq]
  exact fun found => lowest j found.1 below found.2

/-- Settles O42: the claim takes the lowest LIVE slot, and what it finds there decides the result. -/
theorem levyClaimCharges : Obligations.LevyClaimCharges := by
  unfold Obligations.LevyClaimCharges
  intro s c
  dsimp only
  intro takes waits
  refine ⟨fun none => ?_, fun i above live lowest => ?_⟩
  · have exhausted : s.levy c = (s, .exhausted) := by rw [State.levy, State.levySelects_eq_none none]
    rw [exec_levyClaim_of_waits takes waits exhausted]
    rfl
  have selects := State.levySelects_eq_some above live lowest
  refine ⟨fun intact already => ?_, fun tariff intact other named => ?_, fun broken => ?_⟩
  · have passed : s.levy c = (s, .already i) := by simp [State.levy, selects, intact, already]
    rw [exec_levyClaim_of_waits takes waits passed]
    rfl
  · have charged : s.levy c
        = ((s.charge i { s.bodyAt i with lastLevy := c.number } (s.tu.active.standing[tariff]).toNat 0).sendNotices s,
          .charged i) := by
      rw [← Bank.standingFor_of_tariff _ tariff named]
      simp [State.levy, selects, intact, other]
    obtain ⟨body, frame, billing, handOffs, cq, le, re, engages, dirtied, raised⟩ :=
      State.charge_sendNotices_effect { s.bodyAt i with lastLevy := c.number } (s.tu.active.standing[tariff]).toNat 0 live
    generalize (s.charge i { s.bodyAt i with lastLevy := c.number } (s.tu.active.standing[tariff]).toNat 0).sendNotices s
      = u at *
    refine ⟨_, exec_levyClaim_of_waits takes waits charged, body, ?_, frame.congr rfl, billing, handOffs.setLe _, cq, re,
      engages, dirtied, _, .refl _, raised⟩
    rw [State.setLe_le, le]
  · have refused : s.levy c = ((s.check i).sendNotices s, .refused i) := by simp [State.levy, selects, broken]
    obtain ⟨life, body, -, le, others, lists⟩ := State.check_sendNotices_effect live broken
    generalize (s.check i).sendNotices s = u at *
    refine ⟨_, exec_levyClaim_of_waits takes waits refused, life, body, ?_, others, lists⟩
    rw [State.setLe_le, le]

end Levy

/-! ## The billing of unbilled energy -/

section Billing

variable {s : State} {q : Request} {n : Channel} {h : Handle} {i : Slot} {u : Nat}

/-- A claim that changes no view sends no notice (R28). -/
theorem State.sendNotices_of_same {u s : State} (same : ∀ n, u.viewOf n = s.viewOf n) : u.sendNotices s = u := by
  have unmoved (l : List Channel) : State.notifyFrom s l u = u := by
    induction l with
    | nil => rfl
    | cons n rest ih => rw [State.notifyFrom, if_pos (same n), ih]
  exact unmoved channels

/-- The state with the claim of BILL_UNBILLED no longer partly done (R97). -/
def State.unbilling (s : State) : State := { s with store := { s.store with billing := none } }

theorem State.unbilling_viewOf (n : Channel) : s.unbilling.viewOf n = s.viewOf n := rfl

theorem State.OnlyHandsOff.of_unbilling {t : State} (handsOff : s.unbilling.OnlyHandsOff t) : s.OnlyHandsOff t := handsOff

theorem StoreFrame.of_unbilling {t : State} (frame : StoreFrame s.unbilling t i) : StoreFrame s t i :=
  ⟨frame.others, frame.life, frame.generation, frame.counter, frame.intact, frame.lists, frame.openSerial⟩

theorem exec_billUnbilled_of_count (hq : s.Serves q (.billUnbilled n h))
    (counted : s.store.billing = some { channel := n, slot := i, count := some u }) :
    exec .billUnbilled s = .next (s.billEnd i u) := by
  simp [exec, execBillUnbilled, State.claim_of_serves hq, counted]

/-- The answer to a BILL_UNBILLED shows the record as it stands (Table 10-6). -/
theorem State.billPayload_of_open {t : State} (isOpen : t.lifeAt i = .live ∨ t.lifeAt i = .waiting) (count amount : Nat) :
    t.billPayload i count amount
      = count16 count ++ leBytes 4 amount ++ le32 (t.bodyAt i).balance
        ++ [if t.lifeAt i = .live then (t.bodyAt i).credit else 0#8, (t.bodyAt i).emergency, (t.bodyAt i).flags &&& 1#8] := by
  rw [State.billPayload, State.creditBytes_of_open isOpen, List.append_assoc _ [_, _]]
  rfl

/-- Settles O39: the claim waits for the count, the quantizer gives it, and its charge completes the request. -/
theorem unbilledIsBilled : Obligations.UnbilledIsBilled := by
  unfold Obligations.UnbilledIsBilled
  intro s n h i
  dsimp only
  refine ⟨fun q hq takes resolved intact isOpen listed => ?_, fun waits => ?_, fun q u tariff hq counted isOpen named => ?_⟩
  · have begun : s.billBegin n h
        = { s with store := { s.store with billing := some { channel := n, slot := i, count := none } } } := by
      simp [State.billBegin, State.named_of_open resolved intact isOpen, unsettled_of_open isOpen, listed]
    exact ⟨by rw [exec_billUnbilled_of_serves hq takes, begun], rfl⟩
  · simp only [exec, execUnbilledCountTake, waits]
    rfl
  have price : (s.priceFor (s.bodyAt i)).toNat = (s.tu.active.prices[tariff][s.tu.band]).toNat := by
    rw [State.priceFor, Bank.price_of_tariff _ tariff _ named]
  rw [exec_billUnbilled_of_count hq counted, State.billEnd, price]
  dsimp only
  generalize (s.tu.active.prices[tariff][s.tu.band]).toNat = price
  refine ⟨fun zero => ?_, fun positive => ?_⟩
  · subst zero
    have ended : s.finishClaim { state := s.unbilling, outcome := .ok, payload := s.unbilling.billPayload i 0 (0 * price) }
        = s.unbilling.answering q .ok (s.unbilling.billPayload i 0 (0 * price)) := by
      rw [State.finishClaim, State.sendNotices_of_same fun m => s.unbilling_viewOf m]
      exact State.answer_of_serves (s := s.unbilling) hq _ _
    rw [if_pos rfl]
    refine congrArg Host.Outcome.next (ended.trans ?_)
    rw [State.billPayload_of_open (t := s.unbilling) isOpen, Nat.zero_mul]
    rfl
  · rw [if_neg (Nat.pos_iff_ne_zero.mp positive)]
    have charges := s.unbilling.charge_onlyHandsOff (i := i) (b := s.bodyAt i) (amount := u * price) (quanta := u)
    have handsOff : s.OnlyHandsOff (s.unbilling.charge i (s.bodyAt i) (u * price) u) := charges.of_unbilling
    have frame : StoreFrame s (s.unbilling.charge i (s.bodyAt i) (u * price) u) i :=
      (State.charge_storeFrame (s := s.unbilling)).of_unbilling
    have body := s.unbilling.charge_bodyAt_self (i := i) (b := s.bodyAt i) (amount := u * price) (quanta := u)
    have billing : (s.unbilling.charge i (s.bodyAt i) (u * price) u).store.billing = none := by
      rw [State.charge_store_billing]
      rfl
    have dirtied : (s.unbilling.charge i (s.bodyAt i) (u * price) u).ru.inbox = s.ru.inbox ++ [(.store, .account i)] := by
      rw [State.charge_ru]
      rfl
    have raised := s.unbilling.charge_au_inbox (i := i) (b := s.bodyAt i) (amount := u * price) (quanta := u)
    have shown : (s.unbilling.charge i (s.bodyAt i) (u * price) u).billPayload i u (u * price)
        = count16 u ++ leBytes 4 (u * price) ++ le32 ((s.bodyAt i).charged (u * price) u).balance
          ++ [if s.lifeAt i = .live then ((s.unbilling.charge i (s.bodyAt i) (u * price) u).bodyAt i).credit else 0#8,
            ((s.unbilling.charge i (s.bodyAt i) (u * price) u).bodyAt i).emergency,
            ((s.bodyAt i).charged (u * price) u).flags &&& 1#8] := by
      have balance : ((s.unbilling.charge i (s.bodyAt i) (u * price) u).bodyAt i).balance
          = ((s.bodyAt i).charged (u * price) u).balance := by
        rw [body]
        split <;> rfl
      have flags : ((s.unbilling.charge i (s.bodyAt i) (u * price) u).bodyAt i).flags
          = ((s.bodyAt i).charged (u * price) u).flags := by
        rw [body]
        split <;> rfl
      rw [State.billPayload_of_open (frame.life ▸ isOpen), frame.life, balance, flags]
    change (s.unbilling.charge i (s.bodyAt i) (u * price) u).bodyAt i = (if s.lifeAt i = .live then
      ((s.bodyAt i).charged (u * price) u).evaluated false else ((s.bodyAt i).charged (u * price) u).stepped false) at body
    change (s.unbilling.charge i (s.bodyAt i) (u * price) u).au.inbox = s.au.inbox ++ ((if s.lifeAt i = .live then
      entryMessages i (s.bodyAt i).credit ((s.unbilling.charge i (s.bodyAt i) (u * price) u).bodyAt i).credit else [])
      ++ saturatedMessages i (s.bodyAt i) ((s.bodyAt i).charged (u * price) u)) at raised
    change ∃ t, Host.Outcome.next (s.finishClaim
      { state := s.unbilling.charge i (s.bodyAt i) (u * price) u, outcome := .ok
        payload := (s.unbilling.charge i (s.bodyAt i) (u * price) u).billPayload i u (u * price) }) = .next t ∧ _
    rw [shown]
    generalize s.unbilling.charge i (s.bodyAt i) (u * price) u = after at *
    have answered : (s.finishClaim ⟨after, .ok, count16 u ++ leBytes 4 (u * price)
        ++ le32 ((s.bodyAt i).charged (u * price) u).balance ++ [if s.lifeAt i = .live then (after.bodyAt i).credit else 0#8,
          (after.bodyAt i).emergency, ((s.bodyAt i).charged (u * price) u).flags &&& 1#8]⟩).Answered q .ok _ :=
      State.OnlyHandsOff.answered (t := ⟨after, _, _⟩) handsOff hq
    refine ⟨_, rfl, (bodyAt_congr (s.finishClaim_store _) i).trans body, frame.congr (s.finishClaim_store _), ?_,
      State.OnlyHandsOff.handOffFrame handsOff, State.OnlyHandsOff.fieldFrame handsOff, ?_, ⟨_, .refl _, ?_⟩, ?_⟩
    · rw [s.finishClaim_store]
      exact billing
    · rw [s.finishClaim_ru]
      exact dirtied
    · rw [s.finishClaim_au, bodyAt_congr (s.finishClaim_store _)]
      exact raised
    · rw [bodyAt_congr (s.finishClaim_store _)]
      exact answered

end Billing

end Sys2Proof.Machine
end

section
/-! Proofs about the requests of the Tariff Unit (Chapter 4) and about the Channel Quantizers (Chapter 5). -/

set_option Elab.async false

namespace Sys2Proof.Machine

/-! ## The Tariff Unit -/

section TariffUnit

variable {s t : State} {q : Request} {c : Claim} {o : OutcomeCode} {p : List Byte}

/-- An owner that changes only its own block and then answers (R176). -/
theorem next_answer_of_kept (hq : s.Serves q c) (kept : t.re = s.re) (o : OutcomeCode) (p : List Byte) :
    (.next (t.answer o p) : Result) = .next (t.answering q o p) :=
  congrArg Host.Outcome.next (State.answer_of_serves (s := t) (c := c) (by rw [State.Serves, kept]; exact hq) o p)

theorem exec_setPrice_of_serves {k : Tariff} {band : Band} {price : BitVec 16} (hq : s.Serves q (.setPrice k band price)) :
    exec .setPrice s = .next (s.takePrice k band price) := by
  simp [exec, execSetPrice, State.claim_of_serves hq]

theorem exec_setStanding_of_serves {k : Tariff} {charge : BitVec 32} (hq : s.Serves q (.setStanding k charge)) :
    exec .setStanding s = .next (s.takeStanding k charge) := by
  simp [exec, execSetStanding, State.claim_of_serves hq]

theorem exec_setBand_of_serves {band : Band} (hq : s.Serves q (.setBand band)) :
    exec .setBand s = .next (s.takeBand band) := by
  simp [exec, execSetBand, State.claim_of_serves hq]

theorem exec_readTariff_of_serves {active : Bool} {k : Tariff} (hq : s.Serves q (.readTariff active k)) :
    exec .readTariff s = .next (s.answering q .ok (s.tu.report active k)) := by
  simp [exec, execReadTariff, State.claim_of_serves hq, State.answer_of_serves hq]

theorem exec_commitTariffs_of_serves (hq : s.Serves q .commitTariffs) : exec .commitTariffs s = .next s.takeCommit := by
  simp [exec, execCommitTariffs, State.claim_of_serves hq]

theorem flatMap_toList_four (v : Vector (BitVec 16) 4) :
    v.toList.flatMap le16 = le16 v[0] ++ le16 v[1] ++ le16 v[2] ++ le16 v[3] := by
  have listed : v.toList = [v[0], v[1], v[2], v[3]] := by
    refine List.ext_getElem (by simp) fun i within _ => ?_
    rw [Vector.length_toList] at within
    interval_cases i <;> simp
  simp [listed]

theorem yesNo_bne {α : Type} [DecidableEq α] (x y : α) : yesNo (x != y) = if x = y then 0#8 else 1#8 := by
  by_cases same : x = y <;> simp [yesNo, same]

/-- Settles O40: each request of the Tariff Unit changes that block, dirties what it says and answers. -/
theorem tariffRequestsAnswered : Obligations.TariffRequestsAnswered := by
  unfold Obligations.TariffRequestsAnswered
  intro s q
  dsimp only
  refine ⟨fun k band price hq => ?_, fun k charge hq => ?_, fun band hq other => ?_, fun hq => ?_, fun active k hq => ?_,
    fun hq idle => ?_, fun hq walking => ?_⟩
  · rw [exec_setPrice_of_serves hq]
    exact next_answer_of_kept hq (by rfl) _ _
  · rw [exec_setStanding_of_serves hq]
    exact next_answer_of_kept hq (by rfl) _ _
  · rw [exec_setBand_of_serves hq]
    simp only [State.takeBand, if_neg other]
    exact next_answer_of_kept hq (by rfl) _ _
  · rw [exec_setBand_of_serves hq]
    simp only [State.takeBand, ↓reduceIte]
    exact next_answer_of_kept (t := s) hq (by rfl) _ _
  · rw [exec_readTariff_of_serves hq, TariffUnit.report, flatMap_toList_four, yesNo_bne]
  · rw [exec_commitTariffs_of_serves hq]
    simp only [State.takeCommit, if_pos idle]
    exact next_answer_of_kept hq (by rfl) _ _
  · rw [exec_commitTariffs_of_serves hq]
    simp only [State.takeCommit, if_neg walking]
    exact next_answer_of_kept hq (by rfl) _ _

end TariffUnit

/-! ## Pulses, quanta and debit results -/

section Pulses

variable {s : State} {n : Channel}

theorem State.setCq_setCq (s : State) (n : Channel) (x y : Quantizer) : (s.setCq n x).setCq n y = s.setCq n y := by
  simp [State.setCq]

/-- The recogniser answers a level by its own state (R87, R112). -/
theorem Recogniser.edge_eq (r : Recogniser) (level : Bool) :
    r.edge level = match r, level with
      | .waitDeassert, true => .waitDeassert
      | .waitDeassert, false => .waitAssert
      | .waitAssert, true => .qualifying 0
      | .waitAssert, false => .waitAssert
      | .qualifying k, true => .qualifying k
      | .qualifying _, false => .waitAssert := by
  cases r <;> cases level <;> rfl

theorem flowsWhileOpen_iff (x : SupplyState) :
    flowsWhileOpen x = true ↔ x = .opened ∨ x = .armed ∨ ∃ k, x = .fault k := by
  cases x <;> simp [flowsWhileOpen]

theorem exec_pulseEvent_of_qualifying {elapsed : Nat} (qualifies : (s.cqAt n).recogniser = .qualifying elapsed)
    (runs : s.ru.power ≠ .restoring) :
    exec (.pulseEvent n) s = .next ((s.setCq n { s.cqAt n with recogniser := .waitDeassert }).pulse n) := by
  simp [exec, execPulseEvent, State.pulseDue, qualifies, runs]

/-- A quantum formed by a quantizer that has been set to `x` (R90). -/
theorem State.formQuantum_setCq (s : State) (n : Channel) (x : Quantizer) :
    (s.setCq n x).formQuantum n
      = if flowsWhileOpen (s.scAt n).state then
          (s.setCq n { x with debits := x.debits + 1 }).raise (.quantizer n) (.channel n .flowWhileOpen)
        else s.setCq n { x with debits := x.debits + 1 } := by
  have shown : (s.setCq n x).sc[n].state = (s.scAt n).state := rfl
  rw [State.formQuantum, shown]
  split <;> simp [State.raise, State.setAu, State.setCq, State.cqAt]

/-- A pulse that completes a quantum ends the accumulation (R88, R90). -/
theorem exec_pulseEvent_of_formed {elapsed : Nat} (qualifies : (s.cqAt n).recogniser = .qualifying elapsed)
    (runs : s.ru.power ≠ .restoring)
    (complete : (s.cqAt n).accumulation = .idle ∧ (s.cqAt n).config.divisor = 1
      ∨ ∃ count left, (s.cqAt n).accumulation = .accumulating count left ∧ count + 1 = (s.cqAt n).config.divisor) :
    exec (.pulseEvent n) s
      = .next ((s.setCq n { s.cqAt n with recogniser := .waitDeassert, accumulation := .idle }).formQuantum n) := by
  rw [exec_pulseEvent_of_qualifying qualifies runs, State.pulse]
  rcases complete with ⟨idle, single⟩ | ⟨count, left, accumulates, last⟩
  · simp [idle, single]
  · simp [accumulates, last, State.setCq_setCq]

/-- Settles O43: the recogniser follows its input, each pulse counts or forms a quantum, and each debit result is taken
by what it says. -/
theorem pulsesMakeQuanta : Obligations.PulsesMakeQuanta := by
  unfold Obligations.PulsesMakeQuanta
  intro s n
  dsimp only
  refine ⟨fun level runs => ?_, fun elapsed qualifies runs => ⟨fun idle many => ?_, fun count left accumulates more => ?_,
    fun complete => ⟨fun closed => ?_, fun opens => ?_⟩⟩, fun count left accumulates => ?_, fun rest taken => ?_,
    fun rest refused => ⟨fun room => ?_, fun last => ?_, fun full => ?_⟩⟩
  · simp only [exec, execPulseRecogniserEdge, if_neg runs, Recogniser.edge_eq]
    rfl
  · rw [exec_pulseEvent_of_qualifying qualifies runs, State.pulse]
    simp only [State.setCq_cqAt_self, idle, if_neg (Nat.not_le.mpr many), State.setCq_setCq]
    rfl
  · rw [exec_pulseEvent_of_qualifying qualifies runs, State.pulse]
    simp only [State.setCq_cqAt_self, accumulates, if_pos more, State.setCq_setCq]
    rfl
  · rw [exec_pulseEvent_of_formed qualifies runs complete, State.formQuantum_setCq,
      if_neg (mt (flowsWhileOpen_iff _).mp closed)]
    rfl
  · rw [exec_pulseEvent_of_formed qualifies runs complete, State.formQuantum_setCq,
      if_pos ((flowsWhileOpen_iff _).mpr opens)]
    rfl
  · simp only [exec, execWindowTimerExpiry, accumulates]
    rfl
  · simp only [exec, execDebitResult, taken]
    rfl
  · have below : (s.cqAt n).unbilled < countLimit := by simp only [countLimit]; omega
    have short : (s.cqAt n).unbilled + 1 ≠ countLimit := by simp only [countLimit]; omega
    simp only [exec, execDebitResult, refused, State.takeDebitResult, if_pos below, if_neg short]
    rfl
  · simp [exec, execDebitResult, refused, State.takeDebitResult, last, countLimit, State.raise, State.setAu, State.setCq]
  · simp [exec, execDebitResult, refused, State.takeDebitResult, full, countLimit, State.setCq]

end Pulses

/-! ## CONFIGURE_CHANNEL and READ_CHANNEL -/

section Channels

variable {s : State} {q : Request} {n : Channel}

theorem State.setPhase_of_serves {p : Phase} (waits : s.re = some { request := q, phase := p }) (next : Phase) :
    s.setPhase next = s.awaiting q next := by
  simp [State.setPhase, State.awaiting, waits]

theorem exec_configureChannel_of_serves {f : ChannelConfig} (hq : s.Serves q (.configureChannel n f)) :
    exec .configureChannel s = .next (s.configure n f) := by
  simp [exec, execConfigureChannel, State.claim_of_serves hq]

theorem Quantizer.reshaped_eq_true_iff (x : Quantizer) (f : ChannelConfig) :
    x.reshaped f = true ↔ f.divisor ≠ x.config.divisor ∨ f.window ≠ x.config.window := by
  simp [Quantizer.reshaped]

theorem Quantizer.reshaped_of_kept {x : Quantizer} {f : ChannelConfig} (divisor : f.divisor = x.config.divisor)
    (window : f.window = x.config.window) : x.reshaped f = false := by
  simp [Quantizer.reshaped, divisor, window]

theorem Quantizer.configured_of_kept {x : Quantizer} {f : ChannelConfig} (divisor : f.divisor = x.config.divisor)
    (window : f.window = x.config.window) : x.configured f = { x with config := f } := by
  simp [Quantizer.configured, Quantizer.reshaped_of_kept divisor window]

theorem Quantizer.configured_self (x : Quantizer) : x.configured x.config = x :=
  Quantizer.configured_of_kept rfl rfl

theorem Quantizer.configuredReport_of_kept {x : Quantizer} {f : ChannelConfig} (divisor : f.divisor = x.config.divisor)
    (window : f.window = x.config.window) :
    x.configuredReport f = [0#8, 0#8]
      ++ (count16 f.divisor ++ count16 f.window ++ count16 f.timeout ++ [yesNo f.reconnect, yesNo f.reclose]) := by
  simp [Quantizer.configuredReport, Quantizer.reshaped_of_kept divisor window, count16, leBytes]

theorem State.setCq_self (s : State) (n : Channel) : s.setCq n (s.cqAt n) = s := by
  simp [State.setCq, State.cqAt]

/-- Settles O44: the configuration is written whole, and each block gives its half of READ_CHANNEL. -/
theorem channelsConfiguredAndRead : Obligations.ChannelsConfiguredAndRead := by
  unfold Obligations.ChannelsConfiguredAndRead
  intro s q n
  dsimp only
  refine ⟨fun f hq => ⟨fun same => ?_, fun differs => ⟨fun divisor window => ?_, fun reshapes => ?_⟩⟩, fun waits => ?_,
    fun half waits => ?_⟩
  · rw [exec_configureChannel_of_serves hq, State.configure, same, Quantizer.configured_self, State.setCq_self, if_pos rfl,
      Quantizer.configuredReport_of_kept rfl rfl, State.answer_of_serves hq]
  · rw [exec_configureChannel_of_serves hq, State.configure, if_neg differs,
      Quantizer.configuredReport_of_kept divisor window, Quantizer.configured_of_kept divisor window]
    exact next_answer_of_kept hq (by rfl) _ _
  · have cleared := (Quantizer.reshaped_eq_true_iff _ _).mpr reshapes
    rw [exec_configureChannel_of_serves hq, State.configure, if_neg differs]
    simp only [Quantizer.configuredReport, Quantizer.configured, if_pos cleared, ← List.append_assoc]
    exact next_answer_of_kept hq (by rfl) _ _
  · simp only [exec, execReadChannel, waits]
    simp only [Option.isSome_none, Bool.false_eq_true, ↓reduceIte]
    refine congrArg Host.Outcome.next ((State.setPhase_of_serves waits _).trans ?_)
    simp only [State.awaiting, channelPhase, Quantizer.report, List.append_assoc]
    rfl
  · simp only [exec, execReadChannel, waits]
    exact congrArg Host.Outcome.next (State.setPhase_of_serves waits _)

end Channels

end Sys2Proof.Machine
end

section
/-! Proofs about the Supply Controllers (Chapter 6). -/

set_option Elab.async false

namespace Sys2Proof.Machine

section Supplies

variable {s : State} {q : Request} {n : Channel} {c : Supply}

/-! ## What the steps of a controller make of a controller that was just set -/

theorem State.setSc_setSc (s : State) (n : Channel) (x y : Supply) : (s.setSc n x).setSc n y = s.setSc n y := by
  simp [State.setSc]

theorem State.setSc_self (s : State) (n : Channel) : s.setSc n (s.scAt n) = s := by
  simp [State.setSc, State.scAt]

theorem State.setSc_cqAt (s : State) (n m : Channel) (x : Supply) : (s.setSc n x).cqAt m = s.cqAt m := rfl

theorem State.beginOpening_setSc (s : State) (n : Channel) (x : Supply) :
    (s.setSc n x).beginOpening n
      = s.setSc n { x with state := .opening, drive := false, timer := some (s.cqAt n).config.timeout } := by
  rw [State.beginOpening, State.setSc_setSc, State.setSc_scAt_self]
  rfl

theorem State.beginClosing_setSc (s : State) (n : Channel) (x : Supply) :
    (s.setSc n x).beginClosing n
      = s.setSc n { x with state := .closing, drive := true, timer := some (s.cqAt n).config.timeout } := by
  rw [State.beginClosing, State.setSc_setSc, State.setSc_scAt_self]
  rfl

theorem State.enterFault_setSc (s : State) (n : Channel) (x : Supply) (kind : FaultKind) :
    (s.setSc n x).enterFault n kind
      = (s.setSc n { x with state := .fault kind, drive := false, timer := none }).raise (.supply n)
          (.channel n .supplyFault) := by
  rw [State.enterFault, State.setSc_setSc, State.setSc_scAt_self]

/-! ## Evaluation (R105, R106) -/

theorem Supply.openingDemanded_iff (c : Supply) :
    c.openingDemanded = true
      ↔ c.view = .vacant ∨ (c.hold = false ∧ ∃ h e, c.view = .live h (some .exhausted) e) := by
  have exhausted (v : View) : v.exhausted = true ↔ ∃ h e, v = .live h (some .exhausted) e := by
    unfold View.exhausted
    split <;> simp_all
  simp [Supply.openingDemanded, exhausted, and_comm]

theorem permitsSupply_iff (credit : Option Credit) :
    permitsSupply credit = true ↔ ∃ x, credit = some x ∧ x ≠ .exhausted := by
  rcases credit with _ | x
  · simp [permitsSupply]
  · cases x <;> simp [permitsSupply]

theorem Supply.armingAllowed_iff (c : Supply) :
    c.armingAllowed = true ↔ ∃ h credit e, c.view = .live h (some credit) e ∧ credit ≠ .exhausted := by
  unfold Supply.armingAllowed
  split
  · next h credit e live =>
    rw [permitsSupply_iff]
    exact ⟨fun ⟨x, shown, permits⟩ => ⟨h, x, e, by rw [live, shown], permits⟩, fun ⟨_, x, _, shown, permits⟩ =>
      ⟨x, (View.live.inj (live.symm.trans shown)).2.1, permits⟩⟩
  · next vacant => simp [vacant]
  · next quarantined => simp [quarantined]

theorem State.evaluate_of_demanded (closed : (s.scAt n).state = .closed) (demanded : (s.scAt n).openingDemanded = true) :
    s.evaluate n = s.beginOpening n := by
  simp [State.evaluate, closed, demanded]

theorem State.evaluate_of_supplied (closed : (s.scAt n).state = .closed) (kept : ¬(s.scAt n).openingDemanded = true) :
    s.evaluate n = s := by
  simp [State.evaluate, closed, kept]

theorem State.evaluate_of_arming (opened : (s.scAt n).state = .opened) (allowed : (s.scAt n).armingAllowed = true) :
    s.evaluate n = (s.setSc n { s.scAt n with state := .armed }).raise (.supply n) (.channel n .armed) := by
  simp [State.evaluate, opened, allowed]

theorem State.evaluate_of_open (opened : (s.scAt n).state = .opened) (kept : ¬(s.scAt n).armingAllowed = true) :
    s.evaluate n = s := by
  simp [State.evaluate, opened, kept]

theorem State.evaluate_of_armed (armed : (s.scAt n).state = .armed) (allowed : (s.scAt n).armingAllowed = true) :
    s.evaluate n = s := by
  simp [State.evaluate, armed, allowed]

theorem State.evaluate_of_disarming (armed : (s.scAt n).state = .armed) (denied : ¬(s.scAt n).armingAllowed = true) :
    s.evaluate n = s.setSc n { s.scAt n with state := .opened } := by
  simp [State.evaluate, armed, denied]

/-- A controller in the middle of an operation, in FAULT or in ADOPTING ignores an evaluation (R106). -/
theorem State.evaluate_of_busy (busy : (s.scAt n).state = .opening ∨ (s.scAt n).state = .closing
    ∨ (s.scAt n).state = .adopting ∨ ∃ k, (s.scAt n).state = .fault k) : s.evaluate n = s := by
  rcases busy with state | state | state | ⟨k, state⟩ <;> simp [State.evaluate, state]

/-! ## Notices -/

theorem exec_notice_of_oldest {v : View} {rest : List View} (oldest : (s.scAt n).notices = v :: rest) :
    exec (.notice n) s = .next ((s.setSc n { s.scAt n with view := v, notices := rest }).evaluate n) := by
  simp only [exec, execNotice, oldest, State.takeNotice]

/-- Settles O45: the notice replaces the view, and the evaluation acts by the supply state. -/
theorem noticesAreEvaluated : Obligations.NoticesAreEvaluated := by
  unfold Obligations.NoticesAreEvaluated
  intro s n v rest
  dsimp only
  intro oldest
  rw [exec_notice_of_oldest oldest]
  have demanded_iff := Supply.openingDemanded_iff { s.scAt n with view := v, notices := rest }
  have allowed_iff := Supply.armingAllowed_iff { s.scAt n with view := v, notices := rest }
  have seen := s.setSc_scAt_self n { s.scAt n with view := v, notices := rest }
  refine ⟨fun closed demanded => ?_, fun closed kept => ?_, fun opened allowed => ?_, fun opened denied => ?_,
    fun armed allowed => ?_, fun armed denied => ?_, fun busy => ?_⟩
  · rw [State.evaluate_of_demanded (by rw [seen, closed]) (by rw [seen, demanded_iff]; exact demanded),
      State.beginOpening_setSc]
    rfl
  · rw [State.evaluate_of_supplied (by rw [seen, closed]) (by rw [seen, demanded_iff]; exact kept)]
    rfl
  · rw [State.evaluate_of_arming (by rw [seen, opened]) (by rw [seen, allowed_iff]; exact allowed), seen, State.setSc_setSc]
    rfl
  · rw [State.evaluate_of_open (by rw [seen, opened]) (by rw [seen, allowed_iff]; exact denied)]
    rfl
  · rw [State.evaluate_of_armed (by rw [seen, armed]) (by rw [seen, allowed_iff]; exact allowed)]
    rfl
  · rw [State.evaluate_of_disarming (by rw [seen, armed]) (by rw [seen, allowed_iff]; exact denied), seen, State.setSc_setSc]
    rfl
  · rw [State.evaluate_of_busy (by rw [seen]; exact busy)]
    rfl

/-! ## Feedback and the operation timer -/

theorem exec_feedbackEvent_of_change {level : Bool} (changes : (s.scAt n).feedback ≠ level) :
    exec (.feedbackEvent n level) s = .next (s.feedbackChanged n level) := by
  simp only [exec, execFeedbackEvent, if_neg changes]

/-- The pins with the last sample of FBK[n] at a level (R103). -/
def State.withFbk (s : State) (n : Channel) (level : Bool) : State :=
  { s with pins := { s.pins with fbk := setWith s.pins.fbk n.val level } }

theorem State.setFeedback_eq (s : State) (n : Channel) (level : Bool) :
    s.setFeedback n level = (s.withFbk n level).setSc n { s.scAt n with feedback := level, feedbackRun := 0 } := rfl

/-- Settles O46: a change of the contacts confirms the operation under way or is a fault, and so is a timer's end. -/
theorem feedbackDecides : Obligations.FeedbackDecides := by
  unfold Obligations.FeedbackDecides
  intro s n
  dsimp only
  refine ⟨fun conducts => ⟨fun opening => ?_, fun closed => ?_⟩, fun isOpen => ⟨fun closing => ?_, fun resting => ?_⟩,
    fun level changes still => ?_, fun left runs => ⟨fun opening => ?_, fun closing => ?_⟩, fun stopped => ?_⟩
  · rw [exec_feedbackEvent_of_change (by simp [conducts]), State.feedbackChanged, State.setFeedback_eq, opening]
    simp only [Bool.false_eq_true, ↓reduceIte, State.setSc_setSc, State.setSc_scAt_self]
    rfl
  · rw [exec_feedbackEvent_of_change (by simp [conducts]), State.feedbackChanged, State.setFeedback_eq, closed]
    simp only [Bool.false_eq_true, ↓reduceIte, State.enterFault_setSc]
    rfl
  · rw [exec_feedbackEvent_of_change (by simp [isOpen]), State.feedbackChanged, State.setFeedback_eq, closing]
    simp only [↓reduceIte, State.setSc_setSc, State.setSc_scAt_self]
    rfl
  · rw [exec_feedbackEvent_of_change (by simp [isOpen]), State.feedbackChanged, State.setFeedback_eq]
    rcases resting with state | state <;>
    · simp only [state, ↓reduceIte, State.enterFault_setSc]
      rfl
  · rw [exec_feedbackEvent_of_change changes, State.feedbackChanged, State.setFeedback_eq]
    rcases still with state | ⟨k, state⟩ <;>
    · simp only [state]
      rw [← state]
      rfl
  · simp only [exec, execOperationTimerExpiry, runs, opening]
    rfl
  · simp only [exec, execOperationTimerExpiry, runs, closing]
    rfl
  · simp only [exec, execOperationTimerExpiry, stopped]

/-! ## The button -/

/-- A press asks for emergency credit where that status is AVAILABLE, by the credit state and the supply state
(R113). -/
theorem Supply.pressEngages_eq_some_iff (c : Supply) (h : Handle) :
    c.pressEngages = some h
      ↔ ∃ credit, c.view = .live h (some credit) (some .available)
          ∧ (c.state = .opened ∧ credit = .exhausted ∨ c.state = .closed ∧ (credit = .exhausted ∨ credit = .low)) := by
  unfold Supply.pressEngages
  split
  · next state view => simp [state, view]
  · next state view => simp [state, view]
  · next state view => simp [state, view]
  · next spent closed low =>
    simp only [reduceCtorEq, false_iff]
    rintro ⟨credit, view, ⟨state, rfl⟩ | ⟨state, rfl | rfl⟩⟩
    · exact spent h state view
    · exact closed h state view
    · exact low h state view

theorem exec_press_of_qualifying {elapsed : Nat} (qualifies : (s.scAt n).button = .qualifying elapsed)
    (runs : s.ru.power ≠ .restoring) :
    exec (.press n) s = .next ((s.setSc n { s.scAt n with button := .waitDeassert }).press n) := by
  simp [exec, execPress, qualifies, Recogniser.isQualifying, runs]

/-- A press that neither closes nor engages is only taken from the recogniser (R113, R114). -/
theorem State.press_of_idle (s : State) (n : Channel) (x : Supply) (rests : x.state ≠ .armed)
    (idle : x.pressEngages = none ∨ x.engage ≠ none) : (s.setSc n x).press n = s.setSc n x := by
  rw [State.press, State.setSc_scAt_self, if_neg rests]
  rcases idle with silent | outstanding
  · simp [silent]
  · obtain ⟨e, held⟩ := Option.ne_none_iff_exists'.mp outstanding
    simp [held]

theorem State.press_of_engages (s : State) (n : Channel) (x : Supply) {h : Handle} (engages : x.pressEngages = some h)
    (rests : x.state ≠ .armed) (free : x.engage = none) :
    (s.setSc n x).press n
      = s.setSc n { x with engage := some { handle := h, fromClosed := x.state == .closed, answer := none } } := by
  rw [State.press, State.setSc_scAt_self, if_neg rests]
  simp [engages, free, State.setSc_setSc]

theorem exec_engageResult_of_answer {e : Engage} {r : EngageResult} (outstanding : (s.scAt n).engage = some e)
    (answered : e.answer = some r) :
    exec (.engageResult n) s = .next ((s.setSc n { s.scAt n with engage := none }).engageResolved n e r) := by
  simp only [exec, execEngageResult, outstanding, answered]

/-- A result that meets another account, a claim sent from CLOSED or a supply that no longer rests changes nothing
(R115). -/
theorem State.engageResolved_of_moot {e : Engage} {credit : Option Credit} {status : Option Emergency}
    (moot : (∀ x y, (s.scAt n).view ≠ .live e.handle x y) ∨ e.fromClosed = true
      ∨ ((s.scAt n).state ≠ .opened ∧ (s.scAt n).state ≠ .armed)) :
    s.engageResolved n e (.taken credit status) = s := by
  unfold State.engageResolved
  dsimp only
  split
  · next h x y taken view =>
    rw [if_neg]
    rintro ⟨rfl, fresh, state⟩
    rcases moot with other | closed | ⟨notOpened, notArmed⟩
    · exact other x y view
    · simp [closed] at fresh
    · exact state.elim notOpened notArmed
  · rfl

theorem State.engageResolved_of_taken {e : Engage} {credit x : Option Credit} {status y : Option Emergency}
    (view : (s.scAt n).view = .live e.handle x y) (fresh : e.fromClosed = false)
    (rests : (s.scAt n).state = .opened ∨ (s.scAt n).state = .armed) :
    s.engageResolved n e (.taken credit status)
      = if permitsSupply credit then s.beginClosing n else s.evaluate n := by
  simp [State.engageResolved, view, fresh, rests]

/-- Settles O47: the recogniser follows its input; a press closes, engages or does nothing; and so does the result of an
engage claim. -/
theorem pressesAreActedOn : Obligations.PressesAreActedOn := by
  unfold Obligations.PressesAreActedOn
  intro s n
  dsimp only
  refine ⟨fun level adopted => ?_, fun elapsed qualifies runs => ?_, fun e r outstanding answered => ?_⟩
  · simp only [exec, execButtonRecogniserEdge, if_neg adopted, Recogniser.edge_eq]
    rfl
  · rw [exec_press_of_qualifying qualifies runs]
    have engages_iff := Supply.pressEngages_eq_some_iff { s.scAt n with button := .waitDeassert }
    have silent_of (silent : ∀ h, ¬∃ credit, (s.scAt n).view = .live h (some credit) (some .available)
          ∧ ((s.scAt n).state = .opened ∧ credit = .exhausted
            ∨ (s.scAt n).state = .closed ∧ (credit = .exhausted ∨ credit = .low))) :
        Supply.pressEngages { s.scAt n with button := .waitDeassert } = none :=
      Option.eq_none_iff_forall_ne_some.mpr fun h engages => silent h ((engages_iff h).mp engages)
    refine ⟨fun armed => ?_, fun h credit view free => ⟨fun opened spent => ?_, fun closed wanting => ?_⟩, fun busy => ?_,
      fun rests outstanding => ?_, fun rests content => ?_⟩
    · rw [State.press, State.setSc_scAt_self, if_pos armed, State.beginClosing_setSc]
      rfl
    · rw [State.press_of_engages s n _ ((engages_iff h).mpr ⟨credit, view, .inl ⟨opened, spent⟩⟩) (by simp [opened]) free]
      simp only [opened]
      rfl
    · rw [State.press_of_engages s n _ ((engages_iff h).mpr ⟨credit, view, .inr ⟨closed, wanting⟩⟩) (by simp [closed]) free]
      simp only [closed]
      rfl
    · refine congrArg Host.Outcome.next (State.press_of_idle s n _ ?_ (.inl (silent_of ?_)))
      · rcases busy with state | state | state | ⟨k, state⟩ <;> simp [state]
      · rcases busy with state | state | state | ⟨k, state⟩ <;> simp [state]
    · exact congrArg Host.Outcome.next (State.press_of_idle s n _ rests (.inr outstanding))
    · refine congrArg Host.Outcome.next (State.press_of_idle s n _ rests (.inl (silent_of ?_)))
      rintro h ⟨credit, view, ⟨opened, rfl⟩ | ⟨closed, rfl | rfl⟩⟩
      · simpa using content h _ view
      · simpa using content h _ view
      · simpa [closed] using content h _ view
  · rw [exec_engageResult_of_answer outstanding answered]
    have cleared := s.setSc_scAt_self n { s.scAt n with engage := none }
    refine ⟨fun declined => ?_, fun credit status taken => ⟨fun moot => ?_, fun x y view fresh state =>
      ⟨fun permits => ?_, fun spent => ?_⟩⟩⟩
    · rw [declined]
      rfl
    · rw [taken, State.engageResolved_of_moot (by rw [cleared]; exact moot)]
      rfl
    · have permitted : permitsSupply (some credit) = true := (permitsSupply_iff _).mpr ⟨credit, rfl, permits⟩
      rw [taken, State.engageResolved_of_taken (by rw [cleared]; exact view) fresh (by rw [cleared]; exact state),
        if_pos permitted, State.beginClosing_setSc]
      rfl
    · rw [taken, State.engageResolved_of_taken (by rw [cleared]; exact view) fresh (by rw [cleared]; exact state), spent]
      rfl

/-! ## Requests -/

@[simp] theorem State.evaluate_re (s : State) (n : Channel) : (s.evaluate n).re = s.re := by
  rcases s.evaluate_cases n with same | ⟨-, -, same⟩ | ⟨-, -, same⟩ | ⟨-, -, same⟩ <;> rw [same] <;> rfl

theorem State.evaluate_hold (s : State) (n : Channel) : ((s.evaluate n).scAt n).hold = (s.scAt n).hold := by
  rcases s.evaluate_cases n with same | ⟨-, -, same⟩ | ⟨-, -, same⟩ | ⟨-, -, same⟩
  · rw [same]
  · rw [same, State.beginOpening, State.setSc_scAt_self]
  · rw [same]
    exact (congrArg Supply.hold (s.setSc_scAt_self n { s.scAt n with state := .armed })).trans rfl
  · rw [same, State.setSc_scAt_self]

/-- An evaluation in OPEN leaves OPEN or ARMED, which show no fault kind (R106). -/
theorem State.evaluate_faultCode_of_open (opened : (s.scAt n).state = .opened) :
    faultCode ((s.evaluate n).scAt n).state = 0#8 := by
  by_cases allowed : (s.scAt n).armingAllowed = true
  · rw [State.evaluate_of_arming opened allowed]
    exact congrArg (faultCode ·.state) (s.setSc_scAt_self n { s.scAt n with state := .armed })
  · rw [State.evaluate_of_open opened allowed, opened]
    rfl

theorem State.faultReport_of_sound (sound : faultCode (s.scAt n).state = 0#8) :
    s.faultReport n = [supplyCode (s.scAt n).state, 0#8] := by
  rw [State.faultReport, sound]

theorem isFault_iff (x : SupplyState) : isFault x = true ↔ ∃ k, x = .fault k := by
  cases x <;> simp [isFault]

theorem exec_reconnect_of_serves (hq : s.Serves q (.reconnect n)) : exec .reconnect s = .next (s.takeReconnect n) := by
  simp only [exec, execReconnect, State.claim_of_serves hq]

theorem exec_clearFault_of_serves (hq : s.Serves q (.clearFault n)) : exec .clearFault s = .next (s.takeClearFault n) := by
  simp only [exec, execClearFault, State.claim_of_serves hq]

section Hold

variable {mask : BitVec 8} {set : Bool} {flags : Vector (Option Bool) 8}

theorem State.applyHold_re (s : State) (n : Channel) (mask : BitVec 8) (set : Bool) :
    (s.applyHold n mask set).re = s.re := by
  rw [State.applyHold]
  split
  · rw [State.evaluate_re]
    rfl
  · rfl

theorem State.applyHold_hold (s : State) (n : Channel) (mask : BitVec 8) (set : Bool) :
    ((s.applyHold n mask set).scAt n).hold = if mask.getLsbD n.val then set else (s.scAt n).hold := by
  by_cases named : mask.getLsbD n.val = true <;> by_cases same : (s.scAt n).hold = set
  · rw [State.applyHold, if_neg (by simp [same]), if_pos named, same]
  · rw [State.applyHold, if_pos ⟨named, same⟩, if_pos named, State.evaluate_hold]
    exact congrArg Supply.hold (s.setSc_scAt_self n { s.scAt n with hold := set })
  · rw [State.applyHold, if_neg (by simp [same]), if_neg named]
  · rw [State.applyHold, if_neg (fun both => named both.1), if_neg named]

theorem exec_setHold_of_waits (waits : s.re = some { request := q, phase := .hold mask set flags })
    (untaken : flags[n] = none) :
    exec (.setHold n) s
      = .next ((s.applyHold n mask set).awaiting q (holdPhase mask set
          (flags.set n (some (if mask.getLsbD n.val then set else (s.scAt n).hold))))) := by
  have untakenIs : ¬flags[n].isSome = true := by simp [untaken]
  simp only [exec, execSetHold, waits, if_neg untakenIs, State.applyHold_hold]
  exact congrArg Host.Outcome.next (State.setPhase_of_serves (s := s.applyHold n mask set)
    ((s.applyHold_re n mask set).trans waits) _)

theorem holdPhase_of_untaken {m : Channel} (untaken : flags[m] = none) : holdPhase mask set flags = .hold mask set flags := by
  rw [holdPhase, if_neg]
  intro all
  have taken := List.all_eq_true.mp all m (List.mem_finRange m)
  simp [untaken] at taken

theorem holdPhase_of_taken {holds : Vector Bool 8} (taken : ∀ m : Channel, flags[m] = some holds[m]) :
    holdPhase mask set flags = .answered { outcome := .ok, payload := [channelSet holds] } := by
  have values : (Vector.ofFn fun m : Channel => flags[m].getD false) = holds := by
    refine Vector.ext fun i within => ?_
    rw [Vector.getElem_ofFn, taken ⟨i, within⟩]
    rfl
  rw [holdPhase, if_pos (List.all_eq_true.mpr fun m _ => by simp [taken m]), values]

end Hold

/-- Settles O48: each request acts by the supply state of its channel; SET_HOLD gathers a part of every controller. -/
theorem supplyRequestsAnswered : Obligations.SupplyRequestsAnswered := by
  unfold Obligations.SupplyRequestsAnswered
  intro s q n
  dsimp only
  refine ⟨fun hq => ⟨fun armed allowed => ?_, fun denied => ?_⟩, fun hq => ⟨fun k fault isOpen => ?_, fun denied => ?_⟩,
    fun mask set flags waits untaken => ⟨fun ⟨m, other, missing⟩ => ?_, fun others rest => ?_⟩⟩
  · rw [exec_reconnect_of_serves hq, State.takeReconnect, if_pos ⟨armed, allowed⟩]
    exact next_answer_of_kept hq (by rfl) _ _
  · rw [exec_reconnect_of_serves hq, State.takeReconnect, if_neg, State.answer_of_serves hq]
    rintro ⟨armed, allowed⟩
    rcases denied with state | barred
    · exact state armed
    · simp [barred] at allowed
  · rw [exec_clearFault_of_serves hq, State.takeClearFault,
      if_pos ⟨(isFault_iff _).mpr ⟨k, fault⟩, by simp [isOpen]⟩]
    have kept : ((s.setSc n { s.scAt n with state := .opened }).evaluate n).re = s.re := State.evaluate_re _ n
    have shown := State.evaluate_faultCode_of_open (s := s.setSc n { s.scAt n with state := .opened }) (n := n)
      (by rw [State.setSc_scAt_self])
    exact (next_answer_of_kept hq kept _ _).trans
      (congrArg (fun p => Host.Outcome.next (State.answering _ q .ok p)) (State.faultReport_of_sound shown))
  · rw [exec_clearFault_of_serves hq, State.takeClearFault, if_neg, State.answer_of_serves hq, State.faultReport]
    rintro ⟨fault, isOpen⟩
    rcases denied with sound | closed
    · obtain ⟨k, state⟩ := (isFault_iff _).mp fault
      exact sound k state
    · simp [closed] at isOpen
  · rw [exec_setHold_of_waits waits untaken, holdPhase_of_untaken (m := m)]
    · rfl
    · rw [Fin.getElem_fin, Vector.getElem_set_ne _ _ (fun same => other (Fin.ext same.symm))]
      exact missing
  · rw [exec_setHold_of_waits waits untaken, holdPhase_of_taken]
    · rfl
    · intro m
      by_cases same : m = n
      · subst same
        simp
      · have apart : n.val ≠ m.val := fun h => same (Fin.ext h.symm)
        rw [Fin.getElem_fin, Fin.getElem_fin, Vector.getElem_set_ne _ _ apart, Vector.getElem_set_ne _ _ apart]
        exact rest m same

/-! ## Adoption -/

theorem exec_adopt_of_due (sent : (s.scAt n).adopt = true) (taken : (s.scAt n).notices = [])
    (adopting : (s.scAt n).state = .adopting) (quiet : s.au.inbox = []) :
    exec (.adopt n) s = .next ((s.setSc n { s.scAt n with adopt := false, button := .waitDeassert }).adoptState n) := by
  have due : s.adoptDue n = true := by simp [State.adoptDue, sent, taken, adopting, quiet]
  simp only [exec, execAdopt, if_pos due]

/-- Settles O49: the drive latch, the feedback level and the kind of the reset select the adopted state. -/
theorem adoptionFollowsTheTable : Obligations.AdoptionFollowsTheTable := by
  unfold Obligations.AdoptionFollowsTheTable
  intro s n
  dsimp only
  intro sent taken adopting quiet
  rw [exec_adopt_of_due sent taken adopting quiet]
  have allowed_iff := Supply.armingAllowed_iff { s.scAt n with adopt := false, button := .waitDeassert }
  simp only [State.adoptState, State.setSc_scAt_self, State.setSc_ru, State.setSc_cqAt]
  refine ⟨fun drive feedback => ?_, fun drive feedback => ?_, fun drive feedback first => ?_, fun drive feedback later => ?_,
    fun drive feedback first allowed reclose => ?_, fun drive feedback kept => ?_⟩
  · simp only [drive, feedback, State.setSc_setSc]
    rfl
  · simp only [drive, feedback, State.beginClosing_setSc]
    rfl
  · simp only [drive, feedback]
    rw [if_pos first, State.enterFault_setSc]
    simp only [State.raise, State.setSc_au, quiet]
    rfl
  · simp only [drive, feedback]
    rw [if_neg later, State.beginOpening_setSc]
    rfl
  · simp only [drive, feedback]
    rw [if_pos ⟨first, allowed_iff.mpr allowed, reclose⟩, State.beginClosing_setSc]
    rfl
  · simp only [drive, feedback]
    rw [if_neg, State.setSc_setSc]
    · rfl
    · rintro ⟨first, allowed, reclose⟩
      rcases kept with later | denied | open_
      · exact later first
      · exact denied (allowed_iff.mp allowed)
      · exact Bool.false_ne_true (open_.symm.trans reclose)

end Supplies

end Sys2Proof.Machine
end

section
/-! Proofs about the requests of the Attention Unit (8.4, 8.5). -/

set_option Elab.async false

namespace Sys2Proof.Machine

section AttentionRequests

variable {s : State} {q : Request} {subject : Subject} {causes : BitVec 8} {x y : List Entry} {e : Entry}

theorem exec_fetchAttention_of_serves (hq : s.Serves q .fetchAttention) :
    exec .fetchAttention s = .next (s.answering q .ok s.au.headReport) := by
  simp only [exec, execFetchAttention, State.claim_of_serves hq, State.answer_of_serves hq]

theorem exec_ackAttention_of_serves (hq : s.Serves q (.ackAttention subject causes)) :
    exec .ackAttention s
      = .next (State.answering (s.setAu (s.au.setList (acknowledge subject causes s.au.list))) q .ok
          ((s.au.setList (acknowledge subject causes s.au.list)).ackReport subject)) := by
  simp only [exec, execAckAttention, State.claim_of_serves hq, State.takeAck]
  exact next_answer_of_kept hq (by rfl) _ _

theorem exec_setAttentionMask_of_serves {m : CauseMask} (hq : s.Serves q (.setAttentionMask m)) :
    exec .setAttentionMask s = .next (s.takeMask m) := by
  simp only [exec, execSetAttentionMask, State.claim_of_serves hq]

/-- An acknowledgement acts on the entry of its subject, wherever it stands (R155). -/
theorem acknowledge_append (same : e.subject = subject) (apart : ∀ d ∈ x, d.subject ≠ subject) :
    acknowledge subject causes (x ++ e :: y)
      = if e.causes &&& ~~~causes = 0#8 then x ++ y else x ++ { e with causes := e.causes &&& ~~~causes } :: y := by
  induction x with
  | nil => simp [acknowledge, same]
  | cons d rest ih =>
    rw [List.forall_mem_cons] at apart
    rw [List.cons_append, acknowledge, if_neg apart.1, ih apart.2]
    split <;> rfl

theorem acknowledge_of_absent {l : List Entry} (absent : ∀ d ∈ l, d.subject ≠ subject) :
    acknowledge subject causes l = l := by
  induction l with
  | nil => rfl
  | cons d rest ih =>
    rw [List.forall_mem_cons] at absent
    rw [acknowledge, if_neg absent.1, ih absent.2]

/-- The answer to an acknowledgement that leaves no entry of its subject (R155). -/
theorem Attention.ackReport_of_absent {a : Attention} (absent : ∀ d ∈ a.list, d.subject ≠ subject) :
    a.ackReport subject = [0#8, 0#8, count8 a.list.length] := by
  have unfound : a.list.find? (fun d => d.subject == subject) = none :=
    List.find?_eq_none.mpr fun d member found => absent d member (beq_iff_eq.mp found)
  have none : a.list.any (fun d => d.subject == subject) = false :=
    List.any_eq_false.mpr fun d member found => absent d member (beq_iff_eq.mp found)
  simp only [Attention.ackReport, causesOf, unfound, none]
  rfl

theorem Attention.ackReport_of_entry {a : Attention} (list : a.list = x ++ e :: y) (same : e.subject = subject)
    (apart : ∀ d ∈ x, d.subject ≠ subject) : a.ackReport subject = [e.causes, 1#8, count8 (x.length + y.length + 1)] := by
  have unfound : x.find? (fun d => d.subject == subject) = none :=
    List.find?_eq_none.mpr fun d member found => apart d member (beq_iff_eq.mp found)
  simp [Attention.ackReport, causesOf, list, List.find?_append, unfound, same, yesNo, Nat.add_assoc]

/-- Settles O51: the head is reported, an acknowledgement acts on the entry of its subject, and the mask is replaced
whole. -/
theorem attentionRequestsAnswered : Obligations.AttentionRequestsAnswered := by
  unfold Obligations.AttentionRequestsAnswered
  intro s q
  refine ⟨fun hq empty => ?_, fun e rest hq list => ?_, fun subject causes hq => ⟨fun x e y list same apart => ?_,
    fun absent line => ?_⟩, fun m hq => ?_⟩
  · rw [exec_fetchAttention_of_serves hq, Attention.headReport, empty]
  · rw [exec_fetchAttention_of_serves hq, Attention.headReport, list]
    rfl
  · have before : ∀ d ∈ x, d.subject ≠ subject := fun d member => apart d (List.mem_append_left _ member)
    rw [exec_ackAttention_of_serves hq, list, acknowledge_append same before]
    refine ⟨fun emptied => ?_, fun held => ?_⟩
    · rw [if_pos emptied, Attention.ackReport_of_absent (a := s.au.setList (x ++ y)) apart]
      simp [State.setAu, Attention.setList]
    · rw [if_neg held, Attention.ackReport_of_entry (e := { e with causes := e.causes &&& ~~~causes })
        (a := s.au.setList (x ++ { e with causes := e.causes &&& ~~~causes } :: y)) rfl same before]
      have filled : (!(x ++ { e with causes := e.causes &&& ~~~causes } :: y).isEmpty) = true := by simp
      simp only [State.setAu, Attention.setList, filled]
  · have kept : s.au.setList s.au.list = s.au := by rw [Attention.setList, ← line]
    rw [exec_ackAttention_of_serves hq, acknowledge_of_absent absent, kept, Attention.ackReport_of_absent absent]
    rfl
  · rw [exec_setAttentionMask_of_serves hq]
    exact next_answer_of_kept hq (by rfl) _ _

end AttentionRequests

end Sys2Proof.Machine
end

section
/-! Proofs about the Retention Unit: dirtyings, snapshots and writes (7.2, 7.3), power states and device requests (7.4,
7.7), and the drain (7.5). -/

set_option Elab.async false

namespace Sys2Proof.Machine

/-! ## How the events of the Retention Unit end (R126, R128, R137) -/

section Settling

variable {r : Retention} {x : Item} {rest : List Item}

/-- An item dirtied joins the queue unless it is barred or waits there already (R126). -/
theorem Retention.takeDirtying_eq (r : Retention) (x : Item) :
    r.takeDirtying x
      = { r with queue := if r.isBarred x = true ∨ x ∈ r.queue then r.queue else r.queue ++ [x] } := by
  rcases r.takeDirtying_cases x with ⟨kept, same⟩ | ⟨unbarred, unqueued, joined⟩
  · rw [same, if_pos kept]
  · rw [joined, if_neg (by simp [unbarred, unqueued])]

theorem Retention.commitTake_of_next (idle : r.engine = .idle) (next : r.queue = x :: rest) (up : r.power ≠ .restoring)
    (open_ : r.commitSerial ≠ serialLimit) :
    r.commitTake = { r with queue := rest, engine := .snapshot (.start x) } := by
  have takes : r.mayTake = true := by simp [Retention.mayTake, idle, next, up, open_]
  simp only [Retention.commitTake, if_pos takes, next]

theorem Retention.commitTake_of_empty (empty : r.queue = []) : r.commitTake = r := by
  simp [Retention.commitTake, Retention.mayTake, empty]

theorem Retention.commitTake_of_stopped (stopped : r.engine ≠ .idle ∨ r.power = .restoring ∨ r.commitSerial = serialLimit) :
    r.commitTake = r := by
  rcases stopped with busy | restoring | full
  · simp [Retention.commitTake, Retention.mayTake, busy]
  · simp [Retention.commitTake, Retention.mayTake, restoring]
  · simp [Retention.commitTake, Retention.mayTake, full]

theorem Retention.drainComplete_of_undrained (undrained : r.power ≠ .draining ∨ r.engine ≠ .idle) :
    r.drainComplete = r := by
  rcases undrained with power | busy
  · simp [Retention.drainComplete, Retention.drained, power]
  · simp [Retention.drainComplete, Retention.drained, busy]

/-- The head of the queue is taken in the event that makes it possible (R128). -/
theorem Retention.settle_of_next (idle : r.engine = .idle) (next : r.queue = x :: rest) (up : r.power ≠ .restoring)
    (open_ : r.commitSerial ≠ serialLimit) : r.settle = { r with queue := rest, engine := .snapshot (.start x) } := by
  rw [Retention.settle, Retention.commitTake_of_next idle next up open_]
  exact Retention.drainComplete_of_undrained (.inr nofun)

theorem Retention.settle_of_empty (empty : r.queue = []) (undrained : r.power ≠ .draining ∨ r.engine ≠ .idle) :
    r.settle = r := by
  rw [Retention.settle, Retention.commitTake_of_empty empty, Retention.drainComplete_of_undrained undrained]

theorem Retention.settle_of_busy (busy : r.engine ≠ .idle ∨ r.power = .restoring) : r.settle = r := by
  rw [Retention.settle, Retention.commitTake_of_stopped (busy.imp_right .inl)]
  refine Retention.drainComplete_of_undrained (busy.symm.imp_left fun restoring => ?_)
  rw [restoring]
  nofun

theorem Retention.settle_takeDirtying_of_busy (busy : r.engine ≠ .idle ∨ r.power = .restoring) :
    (r.takeDirtying x).settle
      = { r with queue := if r.isBarred x = true ∨ x ∈ r.queue then r.queue else r.queue ++ [x] } := by
  rw [Retention.takeDirtying_eq]
  exact Retention.settle_of_busy busy

/-- A dirtying that fills an empty queue lets the idle engine take it in the same event (R126, R128). -/
theorem Retention.settle_takeDirtying_of_idle (idle : r.engine = .idle) (up : r.power ≠ .restoring)
    (open_ : r.commitSerial ≠ serialLimit) (empty : r.queue = []) (unbarred : r.isBarred x = false) :
    (r.takeDirtying x).settle = { r with engine := .snapshot (.start x) } := by
  have joined : r.takeDirtying x = { r with queue := [x] } := by simp [Retention.takeDirtying_eq, empty, unbarred]
  rw [joined]
  exact (Retention.settle_of_next (r := { r with queue := [x] }) idle rfl up open_).trans (by rw [← empty])

end Settling

/-! ## Dirtyings and snapshots -/

section Snapshots

variable {s : State} {i : Slot}

theorem exec_dirtying_of_oldest {source : Block} {x : Item} {before after : List (Block × Item)}
    (owns : source.ownsRetained = true) (inbox : s.ru.inbox = before ++ (source, x) :: after)
    (older : ∀ m ∈ before, m.1 ≠ source) :
    exec (.dirtying source) s = .next (s.setRu ({ s.ru with inbox := before ++ after }.takeDirtying x).settle) := by
  simp only [exec, execDirtying, owns, Bool.not_true, Bool.false_eq_true, ↓reduceIte, inbox, takeDirtyingOf_spec source x
    before after older]

theorem exec_snapshotClaim_of_waits (waits : s.ru.engine = .snapshot (.account i none)) (takes : s.store.billing = none) :
    exec .snapshotClaim s = .next (s.snapshot i) := by
  simp [exec, execSnapshotClaim, Retention.snapshotSlot, waits, takes]

/-- The snapshot of an intact record that retention keeps gathers its serialised form (R129). -/
theorem State.snapshot_of_kept (intact : s.intactAt i = true)
    (kept : s.lifeAt i = .waiting ∨ s.lifeAt i = .live ∨ s.lifeAt i = .settled ∨ s.lifeAt i = .free) :
    s.snapshot i = s.snapshotTaken i := by
  rcases kept with life | life | life | life <;> simp [State.snapshot, life, intact, s.check_of_intact i intact]

/-- The snapshot of a record that retention does not keep is dropped (R129). -/
theorem State.snapshot_of_unkept
    (unkept : (∃ held, s.lifeAt i = .quarantined held) ∨ (s.lifeAt i = .lost ∧ s.intactAt i = true)) :
    s.snapshot i = s.snapshotDropped := by
  rcases unkept with ⟨held, life⟩ | ⟨life, intact⟩
  · simp [State.snapshot, life]
  · simp [State.snapshot, life, s.check_of_intact i intact]

theorem exec_snapshotPart_of_gathers {owner : Block} {g : Gathering} (owns : owner.ownsRetained = true)
    (gathers : s.ru.engine = .snapshot g) (free : owner = .store → s.store.billing = none) :
    exec (.snapshotPart owner) s = .next (s.setRu { s.ru with engine := .snapshot (s.withPart owner g) }) := by
  have takes : ¬(owner = .store ∧ s.store.billing.isSome = true) := fun ⟨isStore, partly⟩ => by simp [free isStore] at partly
  simp only [exec, execSnapshotPart, owns, Bool.not_true, Bool.false_eq_true, ↓reduceIte, gathers, if_neg takes]

section Parts

variable {n : Channel} {counters : Option (Vector Generation 32)} {band : Option Band}
  {configs : Vector (Option ChannelConfig) 8} {holds : Vector (Option Bool) 8}

theorem State.withPart_tariff :
    s.withPart .tariff (.settings counters none configs holds) = .settings counters (some s.tu.band) configs holds := by
  cases counters <;> rfl

theorem State.withPart_quantizer (missing : configs[n] = none) :
    s.withPart (.quantizer n) (.settings counters band configs holds)
      = .settings counters band (configs.set n (some (s.cqAt n).config)) holds := by
  have untaken : ¬configs[n].isSome = true := by simp [missing]
  cases counters <;> cases band <;> exact if_neg untaken

theorem State.withPart_supply (missing : holds[n] = none) :
    s.withPart (.supply n) (.settings counters band configs holds)
      = .settings counters band configs (holds.set n (some (s.scAt n).hold)) := by
  have untaken : ¬holds[n].isSome = true := by simp [missing]
  cases counters <;> cases band <;> exact if_neg untaken

end Parts

/-- Settles O52: a dirtying joins the queue once, the head is taken where the engine may, and each owner gives its part. -/
theorem dirtyItemsAreGathered : Obligations.DirtyItemsAreGathered := by
  unfold Obligations.DirtyItemsAreGathered
  intro s
  dsimp only
  refine ⟨fun source x before after owns inbox older => ⟨fun busy => ?_, fun idle up open_ empty unbarred => ?_⟩,
    fun x rest next idle up => ⟨fun open_ => ?_, fun full => ?_⟩,
    fun i waits takes => ⟨fun intact kept => ?_, fun unkept => ⟨fun empty up => ?_, fun x rest next up open_ => ?_⟩⟩,
    fun waits => ?_, fun counters band configs holds gathers => ⟨fun missing takes => ?_, fun partly => ?_,
      fun missing => ?_, fun n missing => ?_, fun n missing => ?_⟩⟩
  · rw [exec_dirtying_of_oldest owns inbox older]
    exact congrArg (fun r => Host.Outcome.next (s.setRu r)) (Retention.settle_takeDirtying_of_busy busy)
  · have notRestoring : s.ru.power ≠ .restoring := by rcases up with power | power <;> rw [power] <;> nofun
    rw [exec_dirtying_of_oldest owns inbox older]
    exact congrArg (fun r => Host.Outcome.next (s.setRu r))
      (Retention.settle_takeDirtying_of_idle idle notRestoring open_ empty (by cases x <;> exact unbarred))
  · simp only [exec, execCommitTake, Retention.commitTake_of_next idle next up open_]
    rfl
  · simp only [exec, execCommitTake, Retention.commitTake_of_stopped (.inr (.inr full))]
    rfl
  · rw [exec_snapshotClaim_of_waits waits takes, State.snapshot_of_kept intact kept]
    rfl
  · rw [exec_snapshotClaim_of_waits waits takes, State.snapshot_of_unkept unkept]
    exact congrArg (fun r => Host.Outcome.next (s.setRu r))
      (Retention.settle_of_empty (r := { s.ru with engine := .idle }) empty (.inl up))
  · rw [exec_snapshotClaim_of_waits waits takes, State.snapshot_of_unkept unkept]
    exact congrArg (fun r => Host.Outcome.next (s.setRu r))
      (Retention.settle_of_next (r := { s.ru with engine := .idle }) rfl next up open_)
  · exact exec_snapshotPart_of_gathers (owner := .tariff) rfl waits nofun
  · rw [exec_snapshotPart_of_gathers rfl gathers fun _ => takes, missing]
    rfl
  · obtain ⟨b, billing⟩ := Option.ne_none_iff_exists'.mp partly
    simp [exec, execSnapshotPart, Block.ownsRetained, gathers, billing]
  · rw [exec_snapshotPart_of_gathers (owner := .tariff) rfl gathers nofun, missing, State.withPart_tariff]
    rfl
  · rw [exec_snapshotPart_of_gathers (owner := .quantizer n) rfl gathers nofun, State.withPart_quantizer missing]
    rfl
  · rw [exec_snapshotPart_of_gathers (owner := .supply n) rfl gathers nofun, State.withPart_supply missing]
    rfl

end Snapshots

end Sys2Proof.Machine
end

section
/-! Proofs about the writes of the commit engine and the copies of an item (7.1.1, 7.3). -/

set_option Elab.async false

namespace Sys2Proof.Machine

/-! ## Items and their copies -/

section Items

variable {α : Type}

@[simp] theorem PerItem.get_put_self (p : PerItem α) (x : Item) (v : α) : (p.put x v).get x = v := by
  cases x <;> simp [PerItem.put, PerItem.get]

theorem PerItem.get_put_of_ne {x y : Item} (apart : y ≠ x) (p : PerItem α) (v : α) : (p.put x v).get y = p.get y := by
  cases x with
  | account i =>
    cases y with
    | account j =>
      have slots : i.val ≠ j.val := fun same => apart (congrArg Item.account (Fin.ext same.symm))
      simp [PerItem.put, PerItem.get, Vector.getElem_set_ne _ _ slots]
    | tariff => rfl
    | settings => rfl
  | tariff =>
    cases y with
    | account j => rfl
    | tariff => exact absurd rfl apart
    | settings => rfl
  | settings =>
    cases y with
    | account j => rfl
    | tariff => rfl
    | settings => exact absurd rfl apart

@[simp] theorem Copies.get_put_self (c : Copies) (which : CopyId) (v : NvCopy) : (c.put which v).get which = v := by
  cases which <;> rfl

theorem Copies.get_put_of_ne {which other : CopyId} (apart : other ≠ which) (c : Copies) (v : NvCopy) :
    (c.put which v).get other = c.get other := by
  cases which <;> cases other <;> first | rfl | exact absurd rfl apart

theorem arrayWith_get_self (array : PerItem Copies) (x : Item) (which : CopyId) (v : NvCopy) :
    ((arrayWith array x which v).get x).get which = v := by
  rw [arrayWith, PerItem.get_put_self, Copies.get_put_self]

/-- A copy written touches no other copy. -/
theorem arrayWith_get_other {x y : Item} {which c : CopyId} (apart : y ≠ x ∨ c ≠ which) (array : PerItem Copies)
    (v : NvCopy) : ((arrayWith array x which v).get y).get c = (array.get y).get c := by
  by_cases same : y = x
  · subst same
    rw [arrayWith, PerItem.get_put_self, Copies.get_put_of_ne (apart.resolve_left (not_not_intro rfl))]
  · rw [arrayWith, PerItem.get_put_of_ne same]

theorem DirectoryEntry.mark_eq (e : DirectoryEntry) (which : CopyId) (c : CopyClass) :
    e.mark which c = { e with a := if which = .a then c else e.a, b := if which = .b then c else e.b } := by
  cases which <;> rfl

theorem CopyClass.isValid_iff (c : CopyClass) : c.isValid = true ↔ ∃ k, c = .valid k := by
  cases c <;> simp [CopyClass.isValid]

/-- A write never goes to the latest copy (R130). -/
theorem DirectoryEntry.target_ne_latest (e : DirectoryEntry) (a : e.a.isValid = true) (b : e.b.isValid = true) :
    e.latest ≠ some e.target := by
  simp only [DirectoryEntry.target, a, b]
  split
  · next latest =>
    rw [latest]
    nofun
  · next other => exact other

end Items

/-! ## Writes -/

section Writes

variable {s : State} {r : Retention} {w : Write} {found : NvCopy}

/-- The engine at rest takes the head of the queue, if there is one, at the end of every event (R128, R131). -/
theorem Retention.settle_of_idle (idle : r.engine = .idle) (up : r.power = .run ∨ r.power = .holdup)
    (open_ : r.commitSerial ≠ serialLimit) :
    r.settle = { r with
      queue := r.queue.tail
      engine := (r.queue.head?.map fun x => CommitEngine.snapshot (.start x)).getD .idle } := by
  have notDraining : r.power ≠ .draining := by rcases up with power | power <;> rw [power] <;> nofun
  have notRestoring : r.power ≠ .restoring := by rcases up with power | power <;> rw [power] <;> nofun
  rcases queued : r.queue with _ | ⟨x, rest⟩
  · rw [Retention.settle_of_empty queued (.inl notDraining), List.tail_nil, List.head?_nil, Option.map_none,
      Option.getD_none, ← queued, ← idle]
  · exact Retention.settle_of_next idle queued notRestoring open_

/-- A copy that reads back as written is the item's latest one (R131). -/
theorem Retention.complete_of_good (w : Write) (up : r.power = .run ∨ r.power = .holdup)
    (open_ : r.commitSerial ≠ serialLimit) :
    r.complete w w.stored
      = { r with
          array := arrayWith r.array w.item w.copy w.stored
          directory := r.directory.map fun (d : PerItem DirectoryEntry) => d.put w.item ((d.get w.item).completed w true)
          queue := r.queue.tail
          engine := (r.queue.head?.map fun x => CommitEngine.snapshot (.start x)).getD .idle } := by
  simp only [Retention.complete, beq_self_eq_true, ↓reduceIte]
  refine Retention.settle_of_idle ?_ ?_ ?_
  · rfl
  · exact up
  · exact open_

/-- A copy that reads back as anything else is invalid, and the item is dirtied again (R131). -/
theorem Retention.complete_of_bad (bad : found ≠ w.stored) (up : r.power = .run ∨ r.power = .holdup)
    (open_ : r.commitSerial ≠ serialLimit) :
    r.complete w found
      = { r with
          array := arrayWith r.array w.item w.copy found
          directory := r.directory.map fun (d : PerItem DirectoryEntry) => d.put w.item ((d.get w.item).completed w false)
          queue := (if r.isBarred w.item = true ∨ w.item ∈ r.queue then r.queue else r.queue ++ [w.item]).tail
          writeFaults := min (r.writeFaults + 1) 65535
          engine := ((if r.isBarred w.item = true ∨ w.item ∈ r.queue then r.queue else r.queue ++ [w.item]).head?.map
            fun x => CommitEngine.snapshot (.start x)).getD .idle } := by
  have unequal : (found == w.stored) = false := beq_eq_false_iff_ne.mpr bad
  have barred (q : Retention) (same : q.barred = r.barred) : q.isBarred w.item = r.isBarred w.item :=
    Retention.isBarred_congr same w.item
  simp only [Retention.complete, unequal, Bool.false_eq_true, ↓reduceIte, Retention.takeDirtying_eq]
  rw [barred _ rfl]
  refine Retention.settle_of_idle ?_ ?_ ?_
  · rfl
  · exact up
  · exact open_

theorem exec_writeCompletion_of_writing (writes : s.ru.engine = .writing w) (found : Option NvCopy) :
    exec (.writeCompletion found) s = .next (s.setRu (s.ru.complete w (found.getD w.stored))) := by
  simp only [exec, execWriteCompletion, writes]

/-- Settles O53: a write goes to a copy that is not the latest, and its completion makes of the copy what it reads
back as. -/
theorem writesKeepTheLatestCopy : Obligations.WritesKeepTheLatestCopy := by
  unfold Obligations.WritesKeepTheLatestCopy
  intro s
  dsimp only
  refine ⟨fun g x content gathers complete => ⟨(s.ru.entry x).target, ?_, fun a b => ?_, fun a b => ?_, fun a => ?_⟩,
    fun w d writes directory up open_ => ⟨?_, fun found bad => ?_⟩⟩
  · simp only [exec, execWriteStart, gathers, complete]
    rfl
  · exact DirectoryEntry.target_ne_latest _ ((CopyClass.isValid_iff _).mpr a) ((CopyClass.isValid_iff _).mpr b)
  · rw [← CopyClass.isValid_iff] at a b
    simp [DirectoryEntry.target, a, Bool.not_eq_true _ ▸ b]
  · rw [← CopyClass.isValid_iff, Bool.not_eq_true] at a
    cases b : (s.ru.entry x).b.isValid <;> simp [DirectoryEntry.target, a, b]
  · refine ⟨_, exec_writeCompletion_of_writing writes none, ?_⟩
    rw [Option.getD_none, Retention.complete_of_good w up open_, directory]
    refine ⟨⟨arrayWith_get_self .., fun x c apart => arrayWith_get_other apart .., rfl, rfl, rfl, rfl, rfl⟩,
      ⟨fun empty => ?_, fun x rest next => ?_⟩, rfl, ?_⟩
    · simp [State.setRu, empty]
    · simp [State.setRu, next]
    · simp [State.setRu, DirectoryEntry.completed, DirectoryEntry.mark_eq]
  · refine ⟨_, exec_writeCompletion_of_writing writes (some found), ?_⟩
    rw [Option.getD_some, Retention.complete_of_bad bad up open_, directory]
    refine ⟨⟨arrayWith_get_self .., fun x c apart => arrayWith_get_other apart .., rfl, rfl, rfl, rfl, rfl⟩,
      ⟨fun empty => ?_, fun x rest next => ?_⟩, rfl, ?_⟩
    · simp [State.setRu, empty]
    · simp [State.setRu, next]
    · simp [State.setRu, DirectoryEntry.completed, DirectoryEntry.mark_eq]

end Writes

end Sys2Proof.Machine
end

section
/-! Proofs about power states, the device requests (7.4, 7.7) and the drain (7.5). -/

set_option Elab.async false

namespace Sys2Proof.Machine

/-! ## Power states and the device requests -/

section DeviceRequests

variable {s : State} {q : Request}

/-- In RESTORING and DRAINING the warning is seen and the power state stays (R135). -/
theorem exec_pfwEvent_of_away {high : Bool} (changes : s.ru.pfw ≠ high)
    (away : s.ru.power = .restoring ∨ s.ru.power = .draining) :
    exec (.pfwEvent high) s = .next (s.setPfw high s.ru.power) := by
  rcases away with power | power <;> simp only [exec, execPfwEvent, if_neg changes, power]

/-- What READ_DEVICE shows of the commit engine (Table 10-10). -/
theorem CommitEngine.report_eq {e : CommitEngine} {bytes : List Byte}
    (shows : (e = .idle ∧ bytes = [1#8, 0#8])
      ∨ (∃ i content, e = .snapshot (.account i content) ∧ bytes = [2#8, count8 i.val])
      ∨ (∃ bank, e = .snapshot (.tariff bank) ∧ bytes = [2#8, 32#8])
      ∨ (∃ counters band configs holds, e = .snapshot (.settings counters band configs holds) ∧ bytes = [2#8, 33#8])
      ∨ ∃ w, e = .writing w ∧
          ((∃ i, w.item = .account i ∧ bytes = [3#8, count8 i.val])
            ∨ (w.item = .tariff ∧ bytes = [3#8, 32#8]) ∨ (w.item = .settings ∧ bytes = [3#8, 33#8]))) :
    e.report = bytes := by
  rcases shows with ⟨rfl, rfl⟩ | ⟨i, content, rfl, rfl⟩ | ⟨bank, rfl, rfl⟩ | ⟨counters, band, configs, holds, rfl, rfl⟩
    | ⟨w, rfl, ⟨i, item, rfl⟩ | ⟨item, rfl⟩ | ⟨item, rfl⟩⟩
  · rfl
  · rfl
  · rfl
  · rfl
  · rw [CommitEngine.report, item]
    rfl
  · rw [CommitEngine.report, item]
    rfl
  · rw [CommitEngine.report, item]
    rfl

/-- What READ_DEVICE shows of the levy walk (Table 10-10). -/
theorem LevyEngine.report_eq {e : LevyEngine} {walk last : List Byte}
    (walkShows : (e.walk = .idle ∧ walk = [1#8, 0#8, 0#8, 0#8, 0#8, 0#8])
      ∨ (∃ w, e.walk = .walking w ∧ walk = [2#8] ++ le16 w.number ++ [count8 w.cursor, count8 w.charged, count8 w.already])
      ∨ ∃ w, e.walk = .stopping w ∧ walk = [3#8] ++ le16 w.number ++ [count8 w.cursor, count8 w.charged, count8 w.already])
    (lastShows : (e.last = none ∧ last = List.replicate 6 0#8)
      ∨ ∃ x, e.last = some x ∧
          last = [1#8] ++ le16 x.number ++ [count8 x.charged, count8 x.already, if x.complete then 1#8 else 2#8]) :
    e.report = walk ++ last := by
  simp only [LevyEngine.report]
  refine congrArg₂ (· ++ ·) ?_ ?_
  · rcases walkShows with ⟨state, rfl⟩ | ⟨w, state, rfl⟩ | ⟨w, state, rfl⟩ <;> rw [state]
  · rcases lastShows with ⟨state, rfl⟩ | ⟨x, state, rfl⟩ <;> rw [state]
    rfl

theorem yesNo_beq {α : Type} [DecidableEq α] (x y : α) : yesNo (x == y) = if x = y then 1#8 else 0#8 := by
  by_cases same : x = y <;> simp [yesNo, same]

/-- What READ_DEVICE shows of the Retention Unit (Table 10-10). -/
theorem Retention.report_eq {r : Retention} {engine summary : List Byte} (engineShows : r.engine.report = engine)
    (summaryShows : (∃ x, r.summary = some x ∧
          summary = [resetCode x.kind, count8 x.restored, count8 x.blank, count8 x.lost, count8 x.quarantined,
            count8 x.promoted, count8 x.torn, itemOutcomeCode x.settings, itemOutcomeCode x.tariff])
        ∨ (r.summary = none ∧ summary = List.replicate 9 0#8)) :
    r.report = ([powerCode r.power, yesNo r.pfw] ++ le32 r.commitSerial
      ++ [if r.commitSerial = serialLimit then 1#8 else 0#8, count8 r.queue.length] ++ engine
      ++ count16 r.writeFaults, summary) := by
  rw [Retention.report, engineShows, yesNo_beq]
  rcases summaryShows with ⟨x, shown, rfl⟩ | ⟨absent, rfl⟩
  · rw [shown]
    rfl
  · rw [absent]

/-- An owner that reports has its part of READ_DEVICE put with the others (R147, R176). -/
theorem exec_readDevice_retention (waits : s.re = some { request := q, phase := .device none none none }) :
    exec (.readDevice .retention) s = .next (s.awaiting q (.device (some s.ru.report) none none)) := by
  simp only [exec, execReadDevice, Block.reportsDevice, Bool.not_true, Bool.false_eq_true, ↓reduceIte, waits,
    Option.isSome_none]
  exact congrArg Host.Outcome.next (State.setPhase_of_serves waits _)

theorem exec_readDevice_levy {part : List Byte × List Byte}
    (waits : s.re = some { request := q, phase := .device (some part) none none }) :
    exec (.readDevice .levy) s = .next (s.awaiting q (.device (some part) (some s.le.report) none)) := by
  simp only [exec, execReadDevice, Block.reportsDevice, Bool.not_true, Bool.false_eq_true, ↓reduceIte, waits,
    Option.isSome_none]
  exact congrArg Host.Outcome.next (State.setPhase_of_serves waits _)

theorem exec_readDevice_store {first last levy : List Byte} (takes : s.storeTakes = true)
    (waits : s.re = some { request := q, phase := .device (some (first, last)) (some levy) none }) :
    exec (.readDevice .store) s = .next (s.answering q .ok (first ++ le32 s.store.openSerial ++ levy ++ last)) := by
  simp only [exec, execReadDevice, Block.reportsDevice, Bool.not_true, Bool.false_eq_true, ↓reduceIte, waits,
    Option.isSome_none, takes, Bool.or_self]
  exact congrArg Host.Outcome.next (State.setPhase_of_serves waits _)

/-- Settles O54: the warning and its end act by the power state, and each owner reports what it holds. -/
theorem powerAndDeviceReported : Obligations.PowerAndDeviceReported := by
  unfold Obligations.PowerAndDeviceReported
  intro s q
  dsimp only
  refine ⟨fun low run => ?_, fun high holdup => ?_, fun high changes away => ?_, fun hq => ?_,
    fun engine summary waits engineShows summaryShows => ?_, fun walk last part waits walkShows lastShows => ?_,
    fun first last levy waits takes => ?_⟩
  · have changes : s.ru.pfw ≠ true := by simp [low]
    simp only [exec, execPfwEvent, if_neg changes, run]
    rfl
  · have changes : s.ru.pfw ≠ false := by simp [high]
    simp only [exec, execPfwEvent, if_neg changes, holdup]
    rfl
  · rw [exec_pfwEvent_of_away changes away]
    rfl
  · simp only [exec, execIdentify, State.claim_of_serves hq, State.answer_of_serves hq]
    rfl
  · rw [exec_readDevice_retention waits, Retention.report_eq (CommitEngine.report_eq engineShows) summaryShows]
    rfl
  · rw [exec_readDevice_levy waits, LevyEngine.report_eq walkShows lastShows]
  · exact exec_readDevice_store takes waits

end DeviceRequests

/-! ## The drain -/

section Drain

variable {s : State} {q : Request} {block : Block} {a : StopAnswers} {r : Retention}

theorem Retention.drainComplete_of_drained (power : r.power = .draining) (empty : r.queue = []) (idle : r.engine = .idle)
    (unsent : r.stop = none) : r.drainComplete = { r with stop := some .none } := by
  simp [Retention.drainComplete, Retention.drained, power, empty, idle, unsent]

theorem Retention.drainComplete_of_work (work : ¬(r.queue = [] ∧ r.engine = .idle)) : r.drainComplete = r := by
  rw [Retention.drainComplete, if_neg]
  rintro ⟨drained, -⟩
  simp only [Retention.drained, Bool.and_eq_true, List.isEmpty_iff, beq_iff_eq] at drained
  exact work ⟨drained.1.2, drained.2⟩

theorem exec_softReset_of_serves (hq : s.Serves q .softReset) : exec .softReset s = .next s.takeSoftReset := by
  simp only [exec, execSoftReset, State.claim_of_serves hq]

theorem State.takeSoftReset_of_run (run : s.ru.power = .run) :
    s.takeSoftReset = if s.ru.commitSerial = serialLimit then s.answer .busy []
      else { s.setRu { s.ru with power := .draining }.drainComplete with re := none } := by
  rw [State.takeSoftReset, run]

theorem exec_stop_of_sent (owns : block.ownsRetained = true) (sent : s.ru.stop = some a)
    (behind : ∀ m ∈ s.ru.inbox, m.1 ≠ block) :
    exec (.stop block) s = .next (s.setRu { s.ru with stop := some (a.answeredBy block) }) := by
  have told : ¬s.ru.awaits block = true := by
    simp only [Retention.awaits, List.any_eq_true, beq_iff_eq, not_exists, not_and]
    exact behind
  simp only [exec, execStop, owns, Bool.not_true, Bool.false_eq_true, ↓reduceIte, sent, if_neg told]

/-- Settles O55: SOFT_RESET drains, the drain's end sends the stop, and a block answers it behind its dirtyings. -/
theorem drainStopsTheBlocks : Obligations.DrainStopsTheBlocks := by
  unfold Obligations.DrainStopsTheBlocks
  intro s q
  dsimp only
  refine ⟨fun hq => ⟨fun holdup => ?_, fun run full => ?_, fun run open_ unsent => ⟨fun ⟨empty, idle⟩ => ?_, fun work => ?_⟩⟩,
    fun draining ⟨empty, idle⟩ unsent => ?_,
    fun a sent => ⟨fun behind => ?_, fun behind => ?_, fun n behind => ?_, fun n behind => ?_⟩⟩
  · rw [exec_softReset_of_serves hq, State.takeSoftReset, holdup]
    exact next_answer_of_kept (t := s) hq rfl _ _
  · rw [exec_softReset_of_serves hq, State.takeSoftReset_of_run run, if_pos (by exact full)]
    exact next_answer_of_kept (t := s) hq rfl _ _
  · rw [exec_softReset_of_serves hq, State.takeSoftReset_of_run run, if_neg (by exact open_),
      Retention.drainComplete_of_drained (r := { s.ru with power := .draining }) rfl empty idle unsent]
    rfl
  · rw [exec_softReset_of_serves hq, State.takeSoftReset_of_run run, if_neg (by exact open_),
      Retention.drainComplete_of_work (r := { s.ru with power := .draining }) work]
    rfl
  · simp only [exec, execDrainComplete, Retention.drainComplete_of_drained draining empty idle unsent]
    rfl
  · exact exec_stop_of_sent (block := .store) rfl sent behind
  · exact exec_stop_of_sent (block := .tariff) rfl sent behind
  · exact exec_stop_of_sent (block := .quantizer n) rfl sent behind
  · exact exec_stop_of_sent (block := .supply n) rfl sent behind

end Drain

end Sys2Proof.Machine
end

section
/-! Proofs about the resets (7.3.2, 7.5), the classing of copies and the loading of items (7.6). -/

set_option Elab.async false

namespace Sys2Proof.Machine

/-! ## Resets -/

section Resets

variable {s : State} {first : FirstSample}

theorem keptDrive_eq (kind : ResetKind) (drive : Bool) : keptDrive kind drive = (kind != .powerOn && drive) := by
  cases kind <;> cases drive <;> rfl

theorem Retention.cutArray_of_resting (cut : Cut) {r : Retention} (rests : ∀ w, r.engine ≠ .writing w) :
    r.cutArray cut = r.array := by
  unfold Retention.cutArray
  split
  · next w writes => exact absurd writes (rests w)
  · rfl
  · rfl

theorem Retention.cutArray_of_writing (cut : Cut) {r : Retention} {w : Write} (writes : r.engine = .writing w) :
    r.cutArray cut = arrayWith r.array w.item w.copy (Cut.leaves cut w ((r.array.get w.item).get w.copy)) := by
  simp only [Retention.cutArray, writes]

theorem State.resetTo_cqAt (s : State) (kind : ResetKind) (array : PerItem Copies) (first : FirstSample) (n : Channel) :
    (s.resetTo kind array first).cqAt n = .reset :=
  Vector.getElem_replicate _

theorem State.resetTo_listAt (s : State) (kind : ResetKind) (array : PerItem Copies) (first : FirstSample) (n : Channel) :
    (s.resetTo kind array first).listAt n = [] :=
  Vector.getElem_replicate _

/-- Settles O56: a reset sets every block; what it leaves of a write under way is that copy alone. -/
theorem resetsSetEveryBlock : Obligations.ResetsSetEveryBlock := by
  unfold Obligations.ResetsSetEveryBlock
  intro s first
  refine ⟨fun kind array => ?_, fun cut rests => ?_, fun cut w writes => ?_,
    fun a sent store tariff quantizers supplies draining empty idle inbox => ?_⟩
  · refine ⟨fun i => ?_, s.resetTo_listAt kind array first, rfl, rfl, rfl, fun n => ?_, fun n => ?_, rfl, rfl, rfl, rfl, rfl,
      rfl, rfl, fun i => Vector.getElem_replicate _, rfl, rfl, rfl, rfl, rfl, rfl, rfl, rfl, rfl, rfl, rfl, rfl, rfl, rfl,
      rfl, rfl, rfl, rfl⟩
    · obtain ⟨life, generation, counter, body⟩ := freeForm_spec i 0#11
      rw [State.lifeAt, State.bodyAt, State.intactAt, State.resetTo_slotAt]
      exact ⟨life, generation, counter, body, freeForm_intact i 0#11⟩
    · rw [State.resetTo_cqAt]
      exact ⟨rfl, rfl, rfl, rfl, rfl, rfl⟩
    · rw [State.resetTo_scAt]
      exact ⟨rfl, rfl, rfl, rfl, rfl, rfl, keptDrive_eq kind _⟩
  · simp only [exec, execPowerOnReset, execPinReset, Retention.cutArray_of_resting cut rests, and_self]
  · refine ⟨s.ru.cutArray cut, rfl, rfl, ?_, fun x c apart => ?_⟩
    · rw [Retention.cutArray_of_writing cut writes, arrayWith_get_self]
      cases cut <;> rfl
    · rw [Retention.cutArray_of_writing cut writes, arrayWith_get_other apart]
  · have answered : a.complete = true := by
      simp [StopAnswers.complete, store, tariff, fun n : Channel => quantizers n, fun n : Channel => supplies n]
    have due : s.ru.softResetDue = true := by
      simp [Retention.softResetDue, Retention.drained, draining, empty, idle, inbox, sent, answered]
    simp only [exec, execSoftResetEffect, if_pos due]

end Resets

/-! ## Classing of copies -/

section Classing

variable {s : State}

theorem entryOf_a (x : Item) (c : Copies) : (entryOf x c).a = classOf x c.a := rfl

theorem entryOf_b (x : Item) (c : Copies) : (entryOf x c).b = classOf x c.b := rfl

theorem entryOf_latest (x : Item) (c : Copies) : (entryOf x c).latest = latestOf (entryOf x c).a (entryOf x c).b := rfl

theorem directoryOf_get (array : PerItem Copies) (x : Item) : (directoryOf array).get x = entryOf x (array.get x) := by
  cases x with
  | account i => exact Vector.getElem_ofFn _
  | tariff => rfl
  | settings => rfl

theorem latestOf_of_both (j k : BitVec 32) : latestOf (.valid j) (.valid k) = some (if j < k then .b else .a) := by
  rw [latestOf]
  split <;> rfl

theorem latestOf_of_first {a b : CopyClass} {j : BitVec 32} (first : a = .valid j) (other : ∀ k, b ≠ .valid k) :
    latestOf a b = some .a := by
  subst first
  cases b with
  | valid k => exact absurd rfl (other k)
  | blank => rfl
  | invalid => rfl

theorem latestOf_of_second {a b : CopyClass} {k : BitVec 32} (other : ∀ j, a ≠ .valid j) (second : b = .valid k) :
    latestOf a b = some .b := by
  subst second
  cases a with
  | valid j => exact absurd rfl (other j)
  | blank => rfl
  | invalid => rfl

theorem latestOf_of_neither {a b : CopyClass} (noA : ∀ j, a ≠ .valid j) (noB : ∀ k, b ≠ .valid k) : latestOf a b = none := by
  cases a with
  | valid j => exact absurd rfl (noA j)
  | blank => cases b <;> first | rfl | exact absurd rfl (noB _)
  | invalid => cases b <;> first | rfl | exact absurd rfl (noB _)

theorem latestOf_ne_none_of_valid {a b : CopyClass} (valid : (∃ j, a = .valid j) ∨ ∃ k, b = .valid k) :
    latestOf a b ≠ none := by
  cases a with
  | valid j =>
    cases b with
    | valid k =>
      rw [latestOf_of_both]
      nofun
    | blank => nofun
    | invalid => nofun
  | blank =>
    cases b with
    | valid k => nofun
    | blank => simp at valid
    | invalid => simp at valid
  | invalid =>
    cases b with
    | valid k => nofun
    | blank => simp at valid
    | invalid => simp at valid

theorem DirectoryEntry.outcome_loaded_iff (e : DirectoryEntry) : e.outcome = .loaded ↔ e.latest ≠ none := by
  rw [DirectoryEntry.outcome, Option.ne_none_iff_isSome]
  split_ifs <;> simp_all

theorem DirectoryEntry.outcome_of_unloaded {e : DirectoryEntry} (unloaded : e.latest = none) :
    e.outcome = if e.a = .blank ∧ e.b = .blank then .blank else .lost := by
  rw [DirectoryEntry.outcome, unloaded]
  rfl

/-- An item is BLANK where both its copies are (R139). -/
theorem entryOf_outcome_blank_iff (x : Item) (c : Copies) :
    (entryOf x c).outcome = .blank ↔ (entryOf x c).a = .blank ∧ (entryOf x c).b = .blank := by
  by_cases unloaded : (entryOf x c).latest = none
  · rw [DirectoryEntry.outcome_of_unloaded unloaded]
    split_ifs with blank <;> simp [blank]
  · have loaded := (DirectoryEntry.outcome_loaded_iff _).mpr unloaded
    rw [loaded]
    refine ⟨nofun, fun ⟨a, b⟩ => absurd ?_ unloaded⟩
    exact latestOf_of_neither (fun j valid => nomatch a.symm.trans valid) fun k valid => nomatch b.symm.trans valid

/-- A copy is classed by its own bytes (R125, R139). -/
theorem classOf_spec (x : Item) (copy : NvCopy) :
    match copy with
    | .blank => classOf x copy = .blank
    | .torn => classOf x copy = .invalid
    | .image serial content crc =>
      (crc = crc16 (le32 serial ++ content) ∧ wellFormedFor x content = true → classOf x copy = .valid serial)
        ∧ (crc ≠ crc16 (le32 serial ++ content) ∨ wellFormedFor x content = false → classOf x copy = .invalid) := by
  cases copy with
  | blank => rfl
  | torn => rfl
  | image serial content crc =>
    refine ⟨fun good => if_pos good, fun bad => if_neg ?_⟩
    rintro ⟨same, formed⟩
    rcases bad with other | malformed
    · exact other same
    · exact Bool.false_ne_true (malformed.symm.trans formed)

theorem State.stageDue_of_turn {stage : RestoreStage} (restoring : s.ru.power = .restoring) (turn : s.ru.stage = stage)
    (quiet : s.au.inbox = []) : s.stageDue stage = true := by
  simp [State.stageDue, restoring, turn, quiet]

/-- An item that counts a torn commit has a latest copy and an invalid one (R139). -/
theorem countP_isTorn (d : PerItem DirectoryEntry) (l : List Item) :
    l.countP (fun x => (d.get x).isTorn)
      = l.countP (fun x => (d.get x).latest ≠ none ∧ ((d.get x).a = .invalid ∨ (d.get x).b = .invalid)) :=
  List.countP_congr fun x _ => by simp [DirectoryEntry.isTorn, Option.isSome_iff_ne_none]

theorem exec_classifyCopies_of_turn (restoring : s.ru.power = .restoring) (turn : s.ru.stage = .classify)
    (quiet : s.au.inbox = []) :
    ∃ t, exec .classifyCopies s = .next t
      ∧ t.ru = { s.ru with directory := some (directoryOf s.ru.array), tally := t.ru.tally, stage := .settings }
      ∧ { t with ru := s.ru } = s
      ∧ t.ru.tally.torn = allItems.countP (fun x => ((directoryOf s.ru.array).get x).isTorn)
      ∧ t.ru.tally.settings = ((directoryOf s.ru.array).get .settings).outcome
      ∧ t.ru.tally.tariff = ((directoryOf s.ru.array).get .tariff).outcome := by
  simp only [exec, execClassifyCopies, if_pos (State.stageDue_of_turn restoring turn quiet)]
  generalize allItems.countP _ = torn
  generalize directoryOf s.ru.array = d
  exact ⟨_, rfl, rfl, rfl, rfl, rfl, rfl⟩

/-- Settles O57: each copy is classed by its own bytes, and the classes give the latest copy and the outcome. -/
theorem copiesAreClassed : Obligations.CopiesAreClassed := by
  unfold Obligations.CopiesAreClassed
  intro s restoring turn quiet
  obtain ⟨t, runs, retained, kept, torn, settings, tariff⟩ := exec_classifyCopies_of_turn restoring turn quiet
  refine ⟨t, directoryOf s.ru.array, runs, retained, kept, torn.trans (countP_isTorn _ allItems), fun x => ?_⟩
  have classA := classOf_spec x (s.ru.array.get x).a
  have classB := classOf_spec x (s.ru.array.get x).b
  have entry := directoryOf_get s.ru.array x
  have a : ((directoryOf s.ru.array).get x).a = classOf x (s.ru.array.get x).a := by rw [entry, entryOf_a]
  have b : ((directoryOf s.ru.array).get x).b = classOf x (s.ru.array.get x).b := by rw [entry, entryOf_b]
  have latest : ((directoryOf s.ru.array).get x).latest
      = latestOf ((directoryOf s.ru.array).get x).a ((directoryOf s.ru.array).get x).b := by rw [entry, entryOf_latest]
  have blank : ((directoryOf s.ru.array).get x).outcome = .blank
      ↔ ((directoryOf s.ru.array).get x).a = .blank ∧ ((directoryOf s.ru.array).get x).b = .blank := by
    rw [entry]
    exact entryOf_outcome_blank_iff x _
  have loaded := DirectoryEntry.outcome_loaded_iff ((directoryOf s.ru.array).get x)
  rw [← a] at classA
  rw [← b] at classB
  refine ⟨classA, classB, fun j k validA validB => ?_, fun j validA others => ?_, fun k validB others => ?_,
    fun noA noB => ?_, loaded, blank, fun isSettings => ?_, fun isTariff => ?_⟩
  · rw [latest, validA, validB, latestOf_of_both]
  · exact latest.trans (latestOf_of_first validA others)
  · exact latest.trans (latestOf_of_second others validB)
  · exact latest.trans (latestOf_of_neither noA noB)
  · rw [settings, isSettings]
  · rw [tariff, isTariff]

end Classing

end Sys2Proof.Machine
end

section
/-! Proofs about the loading of the items (R140, R141) and the end of restore (R143, R145, R146). -/

set_option Elab.async false

namespace Sys2Proof.Machine

/-! ## The settings and tariff items -/

section SharedItems

variable {s : State}

/-- The queue after an item that was not barred is dirtied (R126). -/
def joinedQueue (x : Item) (queue : List Item) : List Item := if x ∈ queue then queue else queue ++ [x]

/-- An item found LOST joins the queue, and its cause is raised (R140). -/
theorem State.lostItem_eq (s : State) {x : Item} (unbarred : s.ru.isBarred x = false) (cause : DeviceCause) :
    s.lostItem x cause
      = { s with
          ru := { s.ru with queue := joinedQueue x s.ru.queue }
          au := { s.au with inbox := s.au.inbox ++ [.raised .retention (.device cause)] } } := by
  rw [State.lostItem, Retention.takeDirtying_eq, joinedQueue]
  simp only [unbarred, Bool.false_eq_true, false_or]
  rfl

/-- What the two shared items load, and how each reports a loss (R140). -/
theorem exec_loadSettingsAndTariff_of_turn (restoring : s.ru.power = .restoring) (turn : s.ru.stage = .settings)
    (quiet : s.au.inbox = []) {x : Settings} {bank : Bank}
    (settings : ((s.ru.latestContent .settings).bind parseSettings).getD .default = x)
    (tariff : ((s.ru.latestContent .tariff).bind parseTariff).getD .zero = bank) :
    exec .loadSettingsAndTariff s
      = .next { s.loadSettings x with
          tu := { active := bank, shadow := bank, band := x.band }
          au := { s.au with
            inbox := s.au.inbox
              ++ ((if s.ru.tally.settings = .lost then [.raised .retention (.device .settingsLost)] else [])
                ++ if s.ru.tally.tariff = .lost then [.raised .retention (.device .tariffLost)] else []) }
          ru := { s.ru with
            stage := .accounts 0
            queue :=
              if s.ru.tally.tariff = .lost then
                joinedQueue .tariff (if s.ru.tally.settings = .lost then joinedQueue .settings s.ru.queue else s.ru.queue)
              else if s.ru.tally.settings = .lost then joinedQueue .settings s.ru.queue else s.ru.queue } } := by
  have unlost {t : State} {x : Item} {cause : DeviceCause} (shared : x = .settings ∨ x = .tariff) :
      t.lostItem x cause = { t with
        ru := { t.ru with queue := joinedQueue x t.ru.queue }
        au := { t.au with inbox := t.au.inbox ++ [.raised .retention (.device cause)] } } :=
    t.lostItem_eq (by rcases shared with rfl | rfl <;> rfl) cause
  simp only [exec, execLoadSettingsAndTariff, if_pos (State.stageDue_of_turn restoring turn quiet), settings, tariff,
    unlost (.inl rfl), unlost (.inr rfl)]
  by_cases lostSettings : s.ru.tally.settings = .lost <;> by_cases lostTariff : s.ru.tally.tariff = .lost <;>
    simp [lostSettings, lostTariff, State.loadSettings, State.setStage, State.setRu]

theorem State.loadSettings_slotAt (s : State) (x : Settings) (i : Slot) :
    (s.loadSettings x).slotAt i = { s.slotAt i with counter := x.counters[i] } := Vector.getElem_ofFn _

/-- What a shared item loads: its latest content, or the default where it has none (R140). -/
theorem sharedItem_value {α : Type} {content : Option (List Byte)} {parse : List Byte → Option α} {outcome : ItemOutcome}
    {x default : α}
    (found : (outcome = .loaded ∧ ∃ a, content = some a ∧ parse a = some x)
      ∨ (outcome ≠ .loaded ∧ content = none ∧ x = default)) : (content.bind parse).getD default = x := by
  rcases found with ⟨-, a, shown, parsed⟩ | ⟨-, absent, same⟩
  · rw [shown, Option.bind_some, parsed, Option.getD_some]
  · rw [absent, same]
    rfl

end SharedItems

/-! ## The account items -/

section AccountItems

variable {s : State} {i : Slot}

/-- What the loading of slot i leaves unchanged outside the slot, the Retention Unit and the Attention Unit. -/
def State.KeptBut (s t : State) (i : Slot) : Prop :=
  (∀ j, j ≠ i → t.slotAt j = s.slotAt j) ∧ t.store.lists = s.store.lists ∧ t.store.openSerial = s.store.openSerial
    ∧ { t with store := s.store, ru := s.ru, au := s.au } = s

/-- A slot written beside changes of the Retention Unit and the Attention Unit. -/
def State.writing (s : State) (i : Slot) (x : SlotState) (r : Retention) (a : Attention) : State :=
  { s.setSlot i x with ru := r, au := a }

theorem State.writing_slotAt (s : State) (i : Slot) (x : SlotState) (r : Retention) (a : Attention) :
    (s.writing i x r a).slotAt i = x := s.setSlot_slotAt_self i x

theorem State.writing_keptBut (s : State) (i : Slot) (x : SlotState) (r : Retention) (a : Attention) :
    s.KeptBut (s.writing i x r a) i :=
  ⟨fun j other => (s.setSlot_slotAt i j x).trans (if_neg fun same => other same.symm), rfl, rfl, rfl⟩

/-- What a slot holds once a record with its word has been written there (R11). -/
theorem State.writing_sealed (s : State) (i : Slot) (x : SlotState) (r : Retention) (a : Attention) :
    (s.writing i (x.sealed i) r a).lifeAt i = x.life
      ∧ ((s.writing i (x.sealed i) r a).slotAt i).generation = x.generation
      ∧ ((s.writing i (x.sealed i) r a).slotAt i).counter = x.counter
      ∧ (s.writing i (x.sealed i) r a).bodyAt i = x.body
      ∧ (s.writing i (x.sealed i) r a).intactAt i = true := by
  rw [State.lifeAt, State.bodyAt, State.intactAt, State.writing_slotAt]
  exact ⟨x.sealed_life i, x.sealed_generation i, x.sealed_counter i, x.sealed_body i, x.sealed_intact i⟩

theorem exec_restoreLoad_of_turn (restoring : s.ru.power = .restoring) (turn : s.ru.stage = .accounts i.val)
    (quiet : i.val = 0 → s.au.inbox = []) :
    exec .restoreLoad s
      = .next ((s.loadAccount i).setStage (if i.val = 31 then .references else .accounts (i.val + 1))) := by
  have due : s.loadDue = some i := by
    simp only [State.loadDue, turn, dif_pos i.isLt, restoring, true_and]
    exact if_pos quiet
  simp only [exec, execRestoreLoad, due]

theorem State.loadAccount_of_record {content : List Byte} {x : Loaded} (loaded : (s.ru.entry (.account i)).outcome = .loaded)
    (latest : s.ru.latestContent (.account i) = some content) (parsed : parseAccount i content = some x) :
    s.loadAccount i
      = if x.life = .free then (s.tallied { s.ru.tally with restored := s.ru.tally.restored + 1 }).loadFree i
        else (s.tallied { s.ru.tally with restored := s.ru.tally.restored + 1 }).loadRecord i x := by
  simp only [State.loadAccount, loaded, latest, Option.bind_some, parsed]

/-- A record is written with the counter brought forward where its generation is later; a counter that moves dirties the
settings item (R1, R22, R141). -/
theorem State.loadRecord_eq (s : State) (i : Slot) (x : Loaded) :
    s.loadRecord i x
      = s.writing i
          (SlotState.sealed
            { life := x.life
              generation := x.generation
              counter := if laterGeneration (s.slotAt i).counter x.generation then x.generation else (s.slotAt i).counter
              body := x.body
              word := 0#16 } i)
          { s.ru with
            inbox := s.ru.inbox
              ++ if laterGeneration (s.slotAt i).counter x.generation then [(.store, .settings)] else [] }
          s.au := by
  rw [State.loadRecord]
  dsimp only
  split
  · rfl
  · rw [List.append_nil]
    rfl

theorem State.loadLost_eq (s : State) (i : Slot) :
    s.loadLost i
      = s.writing i
          (lostForm i (if (s.slotAt i).counter = 0#11 then 1#11 else (s.slotAt i).counter)
            (if (s.slotAt i).counter = 0#11 then 1#11 else (s.slotAt i).counter))
          { s.ru with
            inbox := s.ru.inbox ++ (if (s.slotAt i).counter = 0#11 then [(.store, .settings)] else [])
              ++ [(.store, .account i)] }
          { s.au with inbox := s.au.inbox ++ [.raised .store (.slot i .lost)] } := by
  rw [State.loadLost]
  dsimp only
  split
  · rfl
  · rw [List.append_nil]
    rfl

/-- Settles O58: each item is loaded by its outcome, and a slot's item changes that slot alone. -/
theorem itemsAreLoaded : Obligations.ItemsAreLoaded := by
  unfold Obligations.ItemsAreLoaded
  intro s restoring
  dsimp only
  refine ⟨fun x bank turn quiet settings tariff => ?_, fun i turn quiet =>
    ⟨fun content x loaded latest parsed used => ?_, fun content x loaded latest parsed free => ?_, fun blank => ?_,
      fun lost => ?_⟩⟩
  · refine ⟨_, exec_loadSettingsAndTariff_of_turn restoring turn quiet (sharedItem_value settings)
      (sharedItem_value tariff), fun i => s.loadSettings_slotAt x i, fun n => Vector.getElem_ofFn _,
      fun n => Vector.getElem_ofFn _, ?_⟩
    simp only [quiet, List.nil_append, State.loadSettings, true_and]
    rfl
  · rw [exec_restoreLoad_of_turn restoring turn quiet, State.loadAccount_of_record loaded latest parsed, if_neg used,
      State.loadRecord_eq]
    obtain ⟨life, generation, counter, body, intact⟩ := State.writing_sealed
      (s.tallied { s.ru.tally with restored := s.ru.tally.restored + 1 }) i _ _ _
    refine ⟨_, rfl, life, generation, body, intact, counter, State.writing_keptBut s i _ _ _, rfl, rfl, rfl, rfl⟩
  · rw [exec_restoreLoad_of_turn restoring turn quiet, State.loadAccount_of_record loaded latest parsed, if_pos free]
    obtain ⟨life, generation, counter, body, intact⟩ := s.writing_sealed i _ { s.ru with
      tally := { s.ru.tally with restored := s.ru.tally.restored + 1 }
      stage := if i.val = 31 then .references else .accounts (i.val + 1) } s.au
    exact ⟨s.writing i (freeForm i (s.slotAt i).counter) _ _, rfl,
      ⟨life, generation, counter, body, intact, s.writing_keptBut i _ _ _, rfl⟩, rfl⟩
  · have unloaded : s.loadAccount i = (s.tallied { s.ru.tally with blank := s.ru.tally.blank + 1 }).loadFree i := by
      simp only [State.loadAccount, blank]
    rw [exec_restoreLoad_of_turn restoring turn quiet, unloaded]
    obtain ⟨life, generation, counter, body, intact⟩ := s.writing_sealed i _ { s.ru with
      tally := { s.ru.tally with blank := s.ru.tally.blank + 1 }
      stage := if i.val = 31 then .references else .accounts (i.val + 1) } s.au
    exact ⟨s.writing i (freeForm i (s.slotAt i).counter) _ _, rfl,
      ⟨life, generation, counter, body, intact, s.writing_keptBut i _ _ _, rfl⟩, rfl⟩
  · have unloaded : s.loadAccount i = (s.tallied { s.ru.tally with lost := s.ru.tally.lost + 1 }).loadLost i := by
      simp only [State.loadAccount, lost]
    rw [exec_restoreLoad_of_turn restoring turn quiet, unloaded, State.loadLost_eq]
    obtain ⟨life, generation, counter, body, intact⟩ := State.writing_sealed
      (s.tallied { s.ru.tally with lost := s.ru.tally.lost + 1 }) i _ _ _
    exact ⟨_, rfl, life, generation, counter, body, intact, State.writing_keptBut s i _ _ _, rfl, rfl⟩

end AccountItems

/-! ## The end of restore -/

section RestoreEnd

variable {s : State}

/-- The greatest of the serials of a list, 0 where there is none (R22, R143). -/
def greatestSerial (l : List (BitVec 32)) : BitVec 32 := l.foldl (fun m k => if m < k then k else m) 0#32

theorem le_foldl_greater (l : List (BitVec 32)) (m : BitVec 32) :
    m ≤ l.foldl (fun m k => if m < k then k else m) m
      ∧ ∀ k ∈ l, k ≤ l.foldl (fun m k => if m < k then k else m) m := by
  induction l generalizing m with
  | nil => exact ⟨BitVec.le_refl m, nofun⟩
  | cons x rest ih =>
    obtain ⟨above, others⟩ := ih (if m < x then x else m)
    rw [List.foldl_cons]
    generalize rest.foldl _ _ = top at above others
    refine ⟨?_, List.forall_mem_cons.mpr ⟨?_, others⟩⟩ <;> split at above <;> bv_omega

theorem foldl_greater_mem (l : List (BitVec 32)) (m : BitVec 32) :
    l.foldl (fun m k => if m < k then k else m) m = m ∨ l.foldl (fun m k => if m < k then k else m) m ∈ l := by
  induction l generalizing m with
  | nil => exact .inl rfl
  | cons x rest ih =>
    rw [List.foldl_cons]
    rcases ih (if m < x then x else m) with same | member
    · rw [same]
      split
      · exact .inr List.mem_cons_self
      · exact .inl rfl
    · exact .inr (List.mem_cons_of_mem x member)

theorem le_greatestSerial {l : List (BitVec 32)} {k : BitVec 32} (member : k ∈ l) : k ≤ greatestSerial l :=
  (le_foldl_greater l 0#32).2 k member

theorem greatestSerial_mem (l : List (BitVec 32)) : greatestSerial l = 0#32 ∨ greatestSerial l ∈ l :=
  foldl_greater_mem l 0#32

/-- The open serial is the highest of the accounts that carry a reference (R22). -/
theorem State.highestSerial_eq (s : State) :
    s.highestSerial = greatestSerial ((slots.filter fun i => hasReference (s.lifeAt i)).map fun i => (s.bodyAt i).serial) := by
  rw [State.highestSerial, greatestSerial, List.foldl_map, List.foldl_filter]
  congr 1
  funext m i
  split_ifs <;> simp_all

/-- The commit serial is the highest of the valid copies (R143). -/
theorem Retention.highestCommit_eq (r : Retention) :
    r.highestCommit = greatestSerial (allItems.flatMap fun x => [(r.entry x).a.serial, (r.entry x).b.serial]) := by
  rw [Retention.highestCommit, greatestSerial, List.foldl_flatMap]
  rfl

theorem mem_allItems (x : Item) : x ∈ allItems := by
  cases x with
  | account i => exact List.mem_append_left _ (List.mem_map_of_mem (List.mem_finRange i))
  | tariff => exact List.mem_append_right _ List.mem_cons_self
  | settings => exact List.mem_append_right _ (List.mem_cons_of_mem _ List.mem_cons_self)

theorem hasReference_iff (l : Life) : hasReference l = true ↔ l ≠ .free ∧ l ≠ .lost := by
  cases l <;> simp [hasReference]

theorem CopyClass.serial_cases (c : CopyClass) : c.serial = 0#32 ∨ c = .valid c.serial := by
  cases c with
  | valid k => exact .inr rfl
  | blank => exact .inl rfl
  | invalid => exact .inl rfl

theorem Retention.settle_of_up {r : Retention} (up : r.power ≠ .draining) : r.settle = r.commitTake := by
  refine Retention.drainComplete_of_undrained (.inl ?_)
  rcases r.commitTake_cases with same | ⟨x, rest, -, -, -, -, taken⟩
  · rw [same]
    exact up
  · rw [taken]
    exact up

theorem Retention.commitTake_power_stage (r : Retention) :
    r.commitTake.power = r.power ∧ r.commitTake.stage = r.stage := by
  rcases r.commitTake_cases with same | ⟨x, rest, -, -, -, -, taken⟩
  · rw [same]
    exact ⟨rfl, rfl⟩
  · rw [taken]
    exact ⟨rfl, rfl⟩

theorem State.allAdopted_of (adopted : ∀ n, (s.scAt n).adopt = false ∧ (s.scAt n).state ≠ .adopting) :
    s.allAdopted = true := by
  refine List.all_eq_true.mpr fun n _ => ?_
  have taken : s.sc[n].adopt = false := (adopted n).1
  have left : (s.sc[n].state != .adopting) = true := bne_iff_ne.mpr (adopted n).2
  rw [taken, left]
  rfl

/-- The end of restore arms the recognisers and reports a warning that stands (R100, R145). -/
theorem exec_endOfRestore_of_turn (restoring : s.ru.power = .restoring) (turn : s.ru.stage = .adoption)
    (quiet : s.au.inbox = []) (adopted : ∀ n, (s.scAt n).adopt = false ∧ (s.scAt n).state ≠ .adopting) :
    exec .endOfRestore s
      = .next { s with
          ru := { s.ru with power := endPower s.ru.pfw, stage := .done }.settle
          cq := Vector.ofFn fun n => { s.cqAt n with recogniser := .waitDeassert }
          au := { s.au with
            inbox := s.au.inbox ++ if s.ru.pfw then [.raised .retention (.device .powerWarn)] else [] } } := by
  have due : (s.stageDue .adoption && s.allAdopted) = true := by
    rw [State.stageDue_of_turn restoring turn quiet, State.allAdopted_of adopted, Bool.and_self]
  simp only [exec, execEndOfRestore, if_pos due]
  split
  · rfl
  · rw [List.append_nil]
    rfl

/-- Settles O60: the counters take the highest serials loaded, every controller is sent its notice and adopt command,
and the end of restore sets power by the filtered warning. -/
theorem restoreEnds : Obligations.RestoreEnds := by
  unfold Obligations.RestoreEnds
  intro s restoring quiet
  refine ⟨fun turn => ?_, fun turn adopted => ?_⟩
  · have runs : exec .restoreSummary s = .next ((State.raise
        { s.setRu { s.ru with commitSerial := s.ru.highestCommit, summary := some s.ru.tally, stage := .adoption } with
          store := { s.store with openSerial := s.highestSerial } } .retention (.device .restored)).sendAdoption) := by
      simp only [exec, execRestoreSummary, if_pos (State.stageDue_of_turn restoring turn quiet)]
    have highestSerial := s.highestSerial_eq
    have highestCommit := s.ru.highestCommit_eq
    generalize s.highestSerial = openSerial at *
    generalize s.ru.highestCommit = commitSerial at *
    refine ⟨_, runs, fun i used found => ?_, ?_, rfl, rfl, fun x k valid => ?_, ?_, rfl, rfl, rfl, rfl, ?_, fun n => ?_, rfl,
      rfl, rfl, rfl, rfl⟩
    · refine highestSerial ▸ le_greatestSerial (List.mem_map.mpr ⟨i, List.mem_filter.mpr ⟨List.mem_finRange i, ?_⟩, rfl⟩)
      exact (hasReference_iff _).mpr ⟨used, found⟩
    · rcases greatestSerial_mem ((slots.filter fun i => hasReference (s.lifeAt i)).map fun i => (s.bodyAt i).serial)
        with zero | member
      · exact .inl (highestSerial.trans zero)
      · obtain ⟨i, listed, serial⟩ := List.mem_map.mp (highestSerial ▸ member)
        obtain ⟨used, found⟩ := (hasReference_iff _).mp (List.mem_filter.mp listed).2
        exact .inr ⟨i, used, found, serial⟩
    · have listed : k ∈ allItems.flatMap fun x => [(s.ru.entry x).a.serial, (s.ru.entry x).b.serial] := by
        refine List.mem_flatMap.mpr ⟨x, mem_allItems x, ?_⟩
        rcases valid with a | b
        · rw [a]
          exact List.mem_cons_self
        · rw [b]
          exact List.mem_cons_of_mem _ List.mem_cons_self
      exact highestCommit ▸ le_greatestSerial listed
    · rcases greatestSerial_mem (allItems.flatMap fun x => [(s.ru.entry x).a.serial, (s.ru.entry x).b.serial])
        with zero | member
      · exact .inl (highestCommit.trans zero)
      · obtain ⟨x, -, shown⟩ := List.mem_flatMap.mp (highestCommit ▸ member)
        rw [List.mem_cons, List.mem_singleton] at shown
        rcases shown with a | b
        · exact (CopyClass.serial_cases _).imp (fun zero => a.trans zero) fun valid => ⟨x, .inl (a ▸ valid)⟩
        · exact (CopyClass.serial_cases _).imp (fun zero => b.trans zero) fun valid => ⟨x, .inr (b ▸ valid)⟩
    · exact congrArg (fun inbox => { s.au with inbox := inbox ++ [AttentionMessage.raised .retention (.device .restored)] }) quiet
    · exact Vector.getElem_ofFn _
  · rw [exec_endOfRestore_of_turn restoring turn quiet adopted]
    have up : endPower s.ru.pfw ≠ .draining ∧ endPower s.ru.pfw ≠ .restoring := by cases s.ru.pfw <;> exact ⟨nofun, nofun⟩
    have settled := Retention.settle_of_up (r := { s.ru with power := endPower s.ru.pfw, stage := .done }) up.1
    rw [settled]
    have next {x : Item} {rest : List Item} (idle : s.ru.engine = .idle) (open_ : s.ru.commitSerial ≠ serialLimit)
        (queued : s.ru.queue = x :: rest) :=
      Retention.commitTake_of_next (r := { s.ru with power := endPower s.ru.pfw, stage := .done }) idle queued up.2 open_
    have still (empty : s.ru.queue = []) :=
      Retention.commitTake_of_empty (r := { s.ru with power := endPower s.ru.pfw, stage := .done }) empty
    obtain ⟨power, stage⟩ := Retention.commitTake_power_stage { s.ru with power := endPower s.ru.pfw, stage := .done }
    generalize Retention.commitTake { s.ru with power := endPower s.ru.pfw, stage := .done } = r at *
    refine ⟨_, rfl, power, stage, ?_, fun n => Vector.getElem_ofFn _, fun idle open_ x rest queued => ?_, fun empty => ?_,
      rfl, rfl, rfl, rfl, rfl, rfl⟩
    · rw [quiet]
      rfl
    · have taken := next idle open_ queued
      exact ⟨congrArg Retention.engine taken, congrArg Retention.queue taken⟩
    · have kept := still empty
      exact ⟨(congrArg Retention.engine kept).trans rfl, (congrArg Retention.queue kept).trans empty⟩

end RestoreEnd

end Sys2Proof.Machine
end

section
/-! Proofs that restore reads back what the commit engine wrote (R9, R139, R184). -/

set_option Elab.async false

namespace Sys2Proof.Machine

/-! ## Fields of a list of bytes (R180) -/

section Fields

variable {bs rest : List Byte} {k off : Nat}

@[simp] theorem length_leBytes (k x : Nat) : (leBytes k x).length = k := by
  induction k generalizing x with
  | zero => rfl
  | succ k ih => rw [leBytes, List.length_cons, ih]

theorem ofLeBytes_leBytes (k x : Nat) : ofLeBytes (leBytes k x) = x % 256 ^ k := by
  induction k generalizing x with
  | zero => rw [leBytes, ofLeBytes, pow_zero, Nat.mod_one]
  | succ k ih =>
    have head : (BitVec.ofNat 8 x).toNat = x % 256 := BitVec.toNat_ofNat x 8
    rw [leBytes, ofLeBytes, ih, head, pow_succ', Nat.mod_mul]

theorem byteAt_add (bs : List Byte) (start off : Nat) : byteAt bs (start + off) = byteAt (bs.drop start) off := by
  simp [byteAt, List.getD_eq_getElem?_getD]

theorem fieldAt_add (bs : List Byte) (start off k : Nat) : fieldAt bs (start + off) k = fieldAt (bs.drop start) off k := by
  rw [fieldAt, fieldAt, List.drop_drop]

/-- The field at the head of a list of bytes. -/
theorem fieldAt_leBytes_append (k x : Nat) (rest : List Byte) : fieldAt (leBytes k x ++ rest) 0 k = x % 256 ^ k := by
  rw [fieldAt, List.drop_zero, List.take_left' (length_leBytes k x), ofLeBytes_leBytes]

theorem fieldAt_leBytes_skip (j x off k : Nat) (rest : List Byte) :
    fieldAt (leBytes j x ++ rest) (j + off) k = fieldAt rest off k := by
  rw [fieldAt_add, List.drop_left' (length_leBytes j x)]

theorem byteAt_leBytes_skip (j x off : Nat) (rest : List Byte) :
    byteAt (leBytes j x ++ rest) (j + off) = byteAt rest off := by
  rw [byteAt_add, List.drop_left' (length_leBytes j x)]

theorem byteAt_append_of_length {first rest : List Byte} {n : Nat} (length : first.length = n) (off : Nat) :
    byteAt (first ++ rest) (n + off) = byteAt rest off := by
  rw [byteAt_add, List.drop_left' length]

theorem fieldAt_append_of_length {first rest : List Byte} {n : Nat} (length : first.length = n) (off k : Nat) :
    fieldAt (first ++ rest) (n + off) k = fieldAt rest off k := by
  rw [fieldAt_add, List.drop_left' length]

theorem fieldAt_append_of_within {first rest : List Byte} (within : off + k ≤ first.length) :
    fieldAt (first ++ rest) off k = fieldAt first off k := by
  have whole : k ≤ (first.drop off).length := by rw [List.length_drop]; omega
  rw [fieldAt, fieldAt, List.drop_append_of_le_length (by omega), List.take_append_of_le_length whole]

theorem byteAt_append_of_within {first rest : List Byte} (within : off < first.length) :
    byteAt (first ++ rest) off = byteAt first off := by
  rw [byteAt, byteAt, List.getD_append _ _ _ _ within]

/-- The part of a list of records of one width that begins with record i. -/
theorem drop_flatMap {α : Type} {f : α → List Byte} {w : Nat} (width : ∀ x, (f x).length = w) (l : List α) {i : Nat}
    (within : i < l.length) : (l.flatMap f).drop (w * i) = f l[i] ++ (l.drop (i + 1)).flatMap f := by
  induction l generalizing i with
  | nil => simp at within
  | cons x rest ih =>
    cases i with
    | zero => simp
    | succ i =>
      rw [List.flatMap_cons, Nat.mul_succ, Nat.add_comm, ← List.drop_drop, List.drop_left' (width x),
        ih (Nat.lt_of_succ_lt_succ within)]
      rfl

theorem length_flatMap_width {α : Type} {f : α → List Byte} {w : Nat} (width : ∀ x, (f x).length = w) (l : List α) :
    (l.flatMap f).length = w * l.length := by
  simp [List.length_flatMap, width, Nat.mul_comm]

/-- A field of record i of a list of records of one width. -/
theorem fieldAt_flatMap_list {α : Type} {f : α → List Byte} {w : Nat} (width : ∀ x, (f x).length = w) (l : List α)
    (rest : List Byte) {i : Nat} (listed : i < l.length) (within : off + k ≤ w) :
    fieldAt (l.flatMap f ++ rest) (w * i + off) k = fieldAt (f l[i]) off k := by
  have inside : w * i ≤ (l.flatMap f).length := by
    rw [length_flatMap_width width]
    exact Nat.mul_le_mul_left w listed.le
  rw [fieldAt_add, List.drop_append_of_le_length inside, drop_flatMap width _ listed, List.append_assoc,
    fieldAt_append_of_within (by rw [width]; exact within)]

theorem fieldAt_flatMap {α : Type} {f : α → List Byte} {w n : Nat} (width : ∀ x, (f x).length = w) (v : Vector α n)
    (rest : List Byte) (i : Fin n) (within : off + k ≤ w) :
    fieldAt (v.toList.flatMap f ++ rest) (w * i.val + off) k = fieldAt (f v[i]) off k := by
  have listed : i.val < v.toList.length := by rw [Vector.length_toList]; exact i.isLt
  rw [fieldAt_flatMap_list width _ rest listed within, Vector.getElem_toList]
  rfl

theorem byteAt_flatMap {α : Type} {f : α → List Byte} {w n : Nat} (width : ∀ x, (f x).length = w) (v : Vector α n)
    (rest : List Byte) (i : Fin n) (within : off < w) :
    byteAt (v.toList.flatMap f ++ rest) (w * i.val + off) = byteAt (f v[i]) off := by
  have listed : i.val < v.toList.length := by rw [Vector.length_toList]; exact i.isLt
  have inside : w * i.val ≤ (v.toList.flatMap f).length := by
    rw [length_flatMap_width width]
    exact Nat.mul_le_mul_left w listed.le
  rw [byteAt_add, List.drop_append_of_le_length inside, drop_flatMap width _ listed, List.append_assoc,
    byteAt_append_of_within (by rw [width]; exact within), Vector.getElem_toList]
  rfl

end Fields

/-! ## The tariff and settings items -/

section SharedItems

theorem length_le16 (x : BitVec 16) : (le16 x).length = 2 := length_leBytes 2 _
theorem length_le32 (x : BitVec 32) : (le32 x).length = 4 := length_leBytes 4 _

theorem fieldAt_le16 (x : BitVec 16) (rest : List Byte) : fieldAt (le16 x ++ rest) 0 2 = x.toNat :=
  (fieldAt_leBytes_append 2 _ rest).trans (Nat.mod_eq_of_lt x.isLt)

theorem fieldAt_le32 (x : BitVec 32) (rest : List Byte) : fieldAt (le32 x ++ rest) 0 4 = x.toNat :=
  (fieldAt_leBytes_append 4 _ rest).trans (Nat.mod_eq_of_lt x.isLt)

theorem fieldAt_le48 (x : BitVec 48) (rest : List Byte) : fieldAt (le48 x ++ rest) 0 6 = x.toNat :=
  (fieldAt_leBytes_append 6 _ rest).trans (Nat.mod_eq_of_lt x.isLt)

theorem length_priceRow (row : Vector (BitVec 16) 4) : (row.toList.flatMap le16).length = 8 := by
  rw [length_flatMap_width length_le16, Vector.length_toList]

theorem length_prices (bank : Bank) : (bank.prices.toList.flatMap fun row => row.toList.flatMap le16).length = 32 := by
  rw [length_flatMap_width length_priceRow, Vector.length_toList]

theorem length_tariffBytes (bank : Bank) : (tariffBytes bank).length = 48 := by
  rw [tariffBytes, List.length_append, length_prices, length_flatMap_width length_le32, Vector.length_toList]

theorem field16_tariffBytes (bank : Bank) (t : Tariff) (band : Band) :
    field16 (tariffBytes bank) (8 * t.val + 2 * band.val) = bank.prices[t][band] := by
  have row := fieldAt_flatMap length_priceRow bank.prices (bank.standing.toList.flatMap le32) t (off := 2 * band.val)
    (k := 2) (by omega)
  have price := fieldAt_flatMap length_le16 bank.prices[t] [] band (off := 0) (k := 2) (by omega)
  rw [List.append_nil, Nat.add_zero] at price
  have cell := fieldAt_le16 bank.prices[t][band] []
  rw [List.append_nil] at cell
  rw [field16, tariffBytes, row, price, cell, BitVec.ofNat_toNat, BitVec.setWidth_eq]

theorem field32_tariffBytes (bank : Bank) (t : Tariff) :
    field32 (tariffBytes bank) (32 + 4 * t.val) = bank.standing[t] := by
  have charge := fieldAt_flatMap length_le32 bank.standing [] t (off := 0) (k := 4) (by omega)
  rw [List.append_nil, Nat.add_zero] at charge
  have cell := fieldAt_le32 bank.standing[t] []
  rw [List.append_nil] at cell
  rw [field32, tariffBytes, fieldAt_append_of_length (length_prices bank), charge, cell, BitVec.ofNat_toNat,
    BitVec.setWidth_eq]

theorem parseTariff_tariffBytes (bank : Bank) (inRange : ∀ t : Tariff, bank.standing[t].toNat ≤ 1000000) :
    parseTariff (tariffBytes bank) = some bank := by
  have prices : (Vector.ofFn fun t : Fin 4 => Vector.ofFn fun b : Fin 4 =>
      field16 (tariffBytes bank) (8 * t.val + 2 * b.val)) = bank.prices := by
    refine Vector.ext fun t ht => Vector.ext fun b hb => ?_
    rw [Vector.getElem_ofFn, Vector.getElem_ofFn]
    exact field16_tariffBytes bank ⟨t, ht⟩ ⟨b, hb⟩
  have standing : (Vector.ofFn fun t : Fin 4 => field32 (tariffBytes bank) (32 + 4 * t.val)) = bank.standing := by
    refine Vector.ext fun t ht => ?_
    rw [Vector.getElem_ofFn]
    exact field32_tariffBytes bank ⟨t, ht⟩
  have all : bank.standing.toList.all (fun x => decide (x.toNat ≤ 1000000)) = true := by
    refine List.all_eq_true.mpr fun x member => ?_
    obtain ⟨t, within, rfl⟩ := List.getElem_of_mem member
    rw [Vector.length_toList] at within
    rw [Vector.getElem_toList]
    exact decide_eq_true (inRange ⟨t, within⟩)
  simp only [parseTariff, prices, standing, length_tariffBytes, all, and_self, ↓reduceIte]

theorem length_configBytes (c : ChannelConfig) : (configBytes c).length = 8 := by
  simp [configBytes, count16]

theorem length_configs (x : Settings) : (x.configs.toList.flatMap configBytes).length = 64 := by
  rw [length_flatMap_width length_configBytes, Vector.length_toList]

theorem length_count16 (n : Nat) : (count16 n).length = 2 := length_leBytes 2 n

theorem length_settingsBytes (x : Settings) : (settingsBytes x).length = 130 := by
  simp only [settingsBytes, List.length_append, length_configs, List.length_cons, List.length_nil,
    length_flatMap_width fun g : Generation => length_count16 g.toNat, Vector.length_toList]

theorem ChannelConfig.inRange_iff (c : ChannelConfig) :
    c.inRange = true ↔ (1 ≤ c.divisor ∧ c.divisor ≤ 4096) ∧ (1 ≤ c.window ∧ c.window ≤ 3600)
      ∧ 20 ≤ c.timeout ∧ c.timeout ≤ 2000 := by
  simp [ChannelConfig.inRange, and_assoc]

theorem fieldAt_count16 {n : Nat} (small : n < 65536) (rest : List Byte) : fieldAt (count16 n ++ rest) 0 2 = n :=
  (fieldAt_leBytes_append 2 n rest).trans (Nat.mod_eq_of_lt small)

theorem fieldAt_count16_skip (n off k : Nat) (rest : List Byte) :
    fieldAt (count16 n ++ rest) (2 + off) k = fieldAt rest off k := fieldAt_leBytes_skip 2 n off k rest

theorem byteAt_count16_skip (n off : Nat) (rest : List Byte) :
    byteAt (count16 n ++ rest) (2 + off) = byteAt rest off := byteAt_leBytes_skip 2 n off rest

theorem yesNo_beq_one (b : Bool) : (yesNo b == 1#8) = b := by cases b <;> rfl

theorem byteAt_configBytes_flag (c : ChannelConfig) (off : Nat) :
    byteAt (configBytes c) (2 + (2 + (2 + off))) = byteAt [yesNo c.reconnect, yesNo c.reclose] off := by
  rw [configBytes, List.append_assoc, List.append_assoc, byteAt_count16_skip, byteAt_count16_skip, byteAt_count16_skip]

/-- The bytes of a configuration at their offsets. -/
theorem configAt_configBytes {c : ChannelConfig} (inRange : c.inRange = true) : configAt (configBytes c) 0 = c := by
  obtain ⟨⟨-, divisor⟩, ⟨-, window⟩, -, timeout⟩ := c.inRange_iff.mp inRange
  have d : fieldAt (configBytes c) 0 2 = c.divisor := by
    rw [configBytes, List.append_assoc, List.append_assoc]
    exact fieldAt_count16 (by omega) _
  have w : fieldAt (configBytes c) 2 2 = c.window := by
    rw [configBytes, List.append_assoc, List.append_assoc]
    exact (fieldAt_count16_skip _ 0 2 _).trans (fieldAt_count16 (by omega) _)
  have t : fieldAt (configBytes c) 4 2 = c.timeout := by
    rw [configBytes, List.append_assoc, List.append_assoc]
    exact (fieldAt_count16_skip _ 2 2 _).trans ((fieldAt_count16_skip _ 0 2 _).trans (fieldAt_count16 (by omega) _))
  have reconnect : (byteAt (configBytes c) 6 == 1#8) = c.reconnect := by
    rw [byteAt_configBytes_flag c 0]
    exact yesNo_beq_one _
  have reclose : (byteAt (configBytes c) 7 == 1#8) = c.reclose := by
    rw [byteAt_configBytes_flag c 1]
    exact yesNo_beq_one _
  simp only [configAt, Nat.zero_add, d, w, t, reconnect, reclose]

theorem byteAt_flag_le (c : ChannelConfig) {off : Nat} (flag : off = 6 ∨ off = 7) : byteAt (configBytes c) off ≤ 1#8 := by
  have small (b : Bool) : yesNo b ≤ 1#8 := by cases b <;> decide
  rcases flag with rfl | rfl
  · rw [byteAt_configBytes_flag c 0]
    exact small _
  · rw [byteAt_configBytes_flag c 1]
    exact small _

theorem byteAt_settingsBytes (x : Settings) (n : Channel) {off : Nat} (within : off < 8) :
    byteAt (settingsBytes x) (8 * n.val + off) = byteAt (configBytes x.configs[n]) off := by
  rw [settingsBytes, List.append_assoc]
  exact byteAt_flatMap length_configBytes x.configs _ n within

theorem configAt_settingsBytes (x : Settings) (n : Channel) (inRange : x.configs[n].inRange = true) :
    configAt (settingsBytes x) (8 * n.val) = x.configs[n] := by
  have field (off k : Nat) (within : off + k ≤ 8) :
      fieldAt (settingsBytes x) (8 * n.val + off) k = fieldAt (configBytes x.configs[n]) off k := by
    rw [settingsBytes, List.append_assoc]
    exact fieldAt_flatMap length_configBytes x.configs _ n within
  have whole := configAt_configBytes inRange
  simp only [configAt, Nat.zero_add] at whole ⊢
  rw [← Nat.add_zero (8 * n.val), field 0 2 (by omega)]
  simp only [Nat.add_zero, field 2 2 (by omega), field 4 2 (by omega), byteAt_settingsBytes x n (by omega : 6 < 8),
    byteAt_settingsBytes x n (by omega : 7 < 8)]
  exact whole

/-! ### Sets of channels -/

theorem setHas_setWith {k j : Nat} (small : k < 8) (set : BitVec 8) (on : Bool) :
    setHas (setWith set k on) j = if j = k then on else setHas set j := by
  by_cases same : j = k
  · cases on <;> simp [setWith, setHas, same, small]
  cases on with
  | false =>
    simp only [setWith, setHas, Bool.false_eq_true, ↓reduceIte, same]
    by_cases held : set.getLsbD j = true
    · simp [held, BitVec.lt_of_getLsbD held]
      omega
    · simp [held]
  | true =>
    simp [setWith, setHas, same]
    omega

theorem setHas_channelSet (flags : Vector Bool 8) (n : Channel) : setHas (channelSet flags) n.val = flags[n] := by
  have each (l : List Channel) (set : BitVec 8) :
      setHas (l.foldl (fun acc m => setWith acc m.val flags[m]) set) n.val
        = if n ∈ l then flags[n] else setHas set n.val := by
    induction l generalizing set with
    | nil => simp
    | cons m rest ih =>
      rw [List.foldl_cons, ih, setHas_setWith m.isLt]
      by_cases later : n ∈ rest
      · simp [later]
      · by_cases same : n = m
        · subst same
          simp [later]
        · have apart : n.val ≠ m.val := fun h => same (Fin.ext h)
          simp [later, same, apart]
  rw [channelSet, each]
  exact if_pos (List.mem_finRange n)

theorem byteAt_settingsBytes_tail (x : Settings) (off : Nat) :
    byteAt (settingsBytes x) (64 + off)
      = byteAt ([channelSet x.holds, count8 x.band.val] ++ x.counters.toList.flatMap fun g => count16 g.toNat) off := by
  rw [settingsBytes, List.append_assoc, byteAt_append_of_length (length_configs x)]

theorem fieldAt_settingsBytes_counter (x : Settings) (i : Slot) :
    fieldAt (settingsBytes x) (66 + 2 * i.val) 2 = x.counters[i].toNat := by
  have head : (x.configs.toList.flatMap configBytes ++ [channelSet x.holds, count8 x.band.val]).length = 66 := by
    rw [List.length_append, length_configs]
    rfl
  have counter := fieldAt_flatMap (f := fun g : Generation => count16 g.toNat) (fun g => length_count16 g.toNat)
    x.counters [] i (off := 0) (k := 2) (by omega)
  have small : x.counters[i].toNat < 65536 := lt_trans x.counters[i].isLt (by norm_num)
  have cell := fieldAt_count16 small []
  rw [List.append_nil] at counter cell
  rw [settingsBytes, fieldAt_append_of_length head, ← Nat.add_zero (2 * i.val), counter, cell]

theorem band_of_count8 (b : Band) : BitVec.toFin ((count8 b.val).setWidth 2) = b := by
  revert b
  decide

theorem count8_band_lt (b : Band) : (count8 b.val).toNat < 4 := by
  revert b
  decide

theorem parseSettings_settingsBytes (x : Settings) (inRange : ∀ n : Channel, x.configs[n].inRange = true) :
    parseSettings (settingsBytes x) = some x := by
  have holds : byteAt (settingsBytes x) 64 = channelSet x.holds := byteAt_settingsBytes_tail x 0
  have band : byteAt (settingsBytes x) 65 = count8 x.band.val := byteAt_settingsBytes_tail x 1
  have bandSmall := count8_band_lt x.band
  have configs : (Vector.ofFn fun n : Channel => configAt (settingsBytes x) (8 * n.val)) = x.configs := by
    refine Vector.ext fun n within => ?_
    rw [Vector.getElem_ofFn]
    exact configAt_settingsBytes x ⟨n, within⟩ (inRange ⟨n, within⟩)
  have flags : (channels.all fun n => byteAt (settingsBytes x) (8 * n.val + 6) ≤ 1#8
      && byteAt (settingsBytes x) (8 * n.val + 7) ≤ 1#8) = true := by
    refine List.all_eq_true.mpr fun n _ => ?_
    rw [byteAt_settingsBytes x n (by omega : 6 < 8), byteAt_settingsBytes x n (by omega : 7 < 8)]
    simp [byteAt_flag_le]
  have ranges : (channels.all fun n => x.configs[n].inRange) = true := List.all_eq_true.mpr fun n _ => inRange n
  have counters : (slots.all fun i => fieldAt (settingsBytes x) (66 + 2 * i.val) 2 ≤ 2047) = true := by
    refine List.all_eq_true.mpr fun i _ => ?_
    rw [fieldAt_settingsBytes_counter]
    exact decide_eq_true (Nat.le_of_lt_succ x.counters[i].isLt)
  have holdsRead : (Vector.ofFn fun n : Channel => setHas (channelSet x.holds) n.val) = x.holds := by
    refine Vector.ext fun n within => ?_
    rw [Vector.getElem_ofFn]
    exact setHas_channelSet x.holds ⟨n, within⟩
  have countersRead : (Vector.ofFn fun i : Slot => BitVec.ofNat 11 (fieldAt (settingsBytes x) (66 + 2 * i.val) 2))
      = x.counters := by
    refine Vector.ext fun i within => ?_
    rw [Vector.getElem_ofFn, fieldAt_settingsBytes_counter, BitVec.ofNat_toNat, BitVec.setWidth_eq]
    rfl
  simp only [parseSettings, configs, flags, ranges, counters, holds, band, bandSmall, length_settingsBytes, holdsRead,
    countersRead, band_of_count8, and_self, ↓reduceIte]

end SharedItems

/-! ## The account items -/

section AccountItems

/-- The serialised record up to its vouchers: items 1 to 21 of R9. -/
def headBytes (h : Handle) (life held : Byte) (b : Body) : List Byte :=
  le16 h ++ ([life, held, b.channel] ++ (b.reference.toList ++ ([b.tariff, b.credit, b.emergency, b.flags]
    ++ (le32 b.balance ++ (le32 b.threshold ++ (le32 b.allowance ++ (le32 b.opening ++ (le48 b.credited
    ++ (le48 b.debited ++ (le32 b.quanta ++ (le16 b.version ++ (le32 b.serial ++ (le16 b.lastLevy
    ++ [count8 b.vouchers.length])))))))))))))

theorem covered_eq (i : Slot) (st : SlotState) :
    covered i st = headBytes (handleOf i st.generation) (lifeCode st.life) (heldCode st.life) (st.body.shown st.life)
      ++ ((st.body.shown st.life).vouchers.flatMap le32 ++ closeBytes (st.body.shown st.life).closing) := by
  simp only [covered, headBytes, List.append_assoc]

section Skips

variable (rest : List Byte) (off k : Nat)

theorem fieldAt_skip16 (x : BitVec 16) : fieldAt (le16 x ++ rest) (off + 2) k = fieldAt rest off k := by
  rw [Nat.add_comm]
  exact fieldAt_leBytes_skip 2 x.toNat off k rest

theorem fieldAt_skip32 (x : BitVec 32) : fieldAt (le32 x ++ rest) (off + 4) k = fieldAt rest off k := by
  rw [Nat.add_comm]
  exact fieldAt_leBytes_skip 4 x.toNat off k rest

theorem fieldAt_skip48 (x : BitVec 48) : fieldAt (le48 x ++ rest) (off + 6) k = fieldAt rest off k := by
  rw [Nat.add_comm]
  exact fieldAt_leBytes_skip 6 x.toNat off k rest

theorem fieldAt_skipReference (x : Reference) : fieldAt (x.toList ++ rest) (off + 8) k = fieldAt rest off k := by
  rw [Nat.add_comm]
  exact fieldAt_append_of_length x.length_toList off k

theorem fieldAt_skipByte (x : Byte) : fieldAt (x :: rest) (off + 1) k = fieldAt rest off k := rfl

theorem byteAt_skip16 (x : BitVec 16) : byteAt (le16 x ++ rest) (off + 2) = byteAt rest off := by
  rw [Nat.add_comm]
  exact byteAt_leBytes_skip 2 x.toNat off rest

theorem byteAt_skip32 (x : BitVec 32) : byteAt (le32 x ++ rest) (off + 4) = byteAt rest off := by
  rw [Nat.add_comm]
  exact byteAt_leBytes_skip 4 x.toNat off rest

theorem byteAt_skip48 (x : BitVec 48) : byteAt (le48 x ++ rest) (off + 6) = byteAt rest off := by
  rw [Nat.add_comm]
  exact byteAt_leBytes_skip 6 x.toNat off rest

theorem byteAt_skipReference (x : Reference) : byteAt (x.toList ++ rest) (off + 8) = byteAt rest off := by
  rw [Nat.add_comm]
  exact byteAt_append_of_length x.length_toList off

theorem byteAt_skipByte (x : Byte) : byteAt (x :: rest) (off + 1) = byteAt rest off := rfl

theorem byteAt_head (x : Byte) : byteAt (x :: rest) 0 = x := rfl

end Skips

section Head

variable (h : Handle) (life held : Byte) (b : Body) (rest : List Byte)

theorem length_headBytes : (headBytes h life held b).length = 58 := by
  simp [headBytes, le16, le32, le48]

/-- What the serialised record holds before its reference, and its voucher count. -/
theorem headBytes_codes :
    field16 (headBytes h life held b ++ rest) 0 = h ∧ byteAt (headBytes h life held b ++ rest) 2 = life
      ∧ byteAt (headBytes h life held b ++ rest) 3 = held
      ∧ byteAt (headBytes h life held b ++ rest) 57 = count8 b.vouchers.length := by
  simp only [headBytes, List.append_assoc, List.cons_append, List.nil_append, field16, fieldAt_le16, byteAt_skip16,
    byteAt_skip32, byteAt_skip48, byteAt_skipReference, byteAt_skipByte, byteAt_head, BitVec.ofNat_toNat,
    BitVec.setWidth_eq, and_self]

theorem referenceAt_headBytes : referenceAt (headBytes h life held b ++ rest) 5 = b.reference := by
  refine Vector.ext fun j within => ?_
  have inside : j < b.reference.toList.length := by rw [Vector.length_toList]; exact within
  have start : (le16 h ++ [life, held, b.channel]).length = 5 := by simp [le16]
  obtain ⟨tail, split⟩ : ∃ tail, headBytes h life held b ++ rest
      = (le16 h ++ [life, held, b.channel]) ++ (b.reference.toList ++ tail) :=
    ⟨_, by simp only [headBytes, List.append_assoc]; rfl⟩
  rw [referenceAt, Vector.getElem_ofFn, split, byteAt_append_of_length start, byteAt_append_of_within inside, byteAt,
    List.getD_eq_getElem _ _ inside, Vector.getElem_toList]

/-- The fields of the serialised record at the offsets of Table 10-8. -/
theorem bodyAt_headBytes :
    bodyAt (headBytes h life held b ++ rest)
      = { b with
          flags := b.flags &&& 1#8
          vouchers := (bodyAt (headBytes h life held b ++ rest)).vouchers
          closing := (bodyAt (headBytes h life held b ++ rest)).closing } := by
  simp only [bodyAt, referenceAt_headBytes]
  simp only [headBytes, List.append_assoc, List.cons_append, List.nil_append, field16, field32, field48, fieldAt_skip16,
    fieldAt_skip32, fieldAt_skip48, fieldAt_skipReference, fieldAt_skipByte, fieldAt_le16, fieldAt_le32, fieldAt_le48,
    byteAt_skip16, byteAt_skip32, byteAt_skip48, byteAt_skipReference, byteAt_skipByte, byteAt_head, BitVec.ofNat_toNat,
    BitVec.setWidth_eq]

end Head

/-- The voucher count fits its byte. -/
theorem count8_toNat {n : Nat} (few : n ≤ 4) : (count8 n).toNat = n :=
  (BitVec.toNat_ofNat n 8).trans (Nat.mod_eq_of_lt (by omega))

section Tail

variable (h : Handle) (life held : Byte) {b : Body} (word : BitVec 16) (few : b.vouchers.length ≤ 4)

/-- The serialised record whole (R9). -/
def recordBytes (h : Handle) (life held : Byte) (b : Body) (word : BitVec 16) : List Byte :=
  headBytes h life held b ++ (b.vouchers.flatMap le32 ++ (closeBytes b.closing ++ le16 word))

include few

theorem voucherCount_recordBytes : (byteAt (recordBytes h life held b word) 57).toNat = b.vouchers.length := by
  rw [recordBytes, (headBytes_codes h life held b _).2.2.2, count8_toNat few]

theorem vouchers_recordBytes : (bodyAt (recordBytes h life held b word)).vouchers = b.vouchers := by
  refine List.ext_getElem ?_ fun j _ listed => ?_
  · simp [bodyAt, voucherCount_recordBytes h life held word few]
  have cell := fieldAt_le32 b.vouchers[j] []
  rw [List.append_nil] at cell
  simp only [bodyAt, List.getElem_map, List.getElem_range]
  rw [field32, recordBytes, fieldAt_append_of_length (length_headBytes h life held b), ← Nat.add_zero (4 * j),
    fieldAt_flatMap_list length_le32 _ _ listed (by omega), cell, BitVec.ofNat_toNat, BitVec.setWidth_eq]

omit few in
theorem tail_recordBytes (off : Nat) :
    byteAt (recordBytes h life held b word) (58 + 4 * b.vouchers.length + off) = byteAt (closeBytes b.closing ++ le16 word) off
      ∧ ∀ k, fieldAt (recordBytes h life held b word) (58 + 4 * b.vouchers.length + off) k
          = fieldAt (closeBytes b.closing ++ le16 word) off k := by
  have length : (headBytes h life held b ++ b.vouchers.flatMap le32).length = 58 + 4 * b.vouchers.length := by
    rw [List.length_append, length_headBytes, length_flatMap_width length_le32]
  rw [recordBytes, ← List.append_assoc, byteAt_append_of_length length]
  exact ⟨rfl, fun k => fieldAt_append_of_length length off k⟩

omit few in
/-- The close marker and the length tell whether close info follows the vouchers. -/
theorem marker_recordBytes :
    byteAt (recordBytes h life held b word) (58 + 4 * b.vouchers.length) = (if b.closing.isSome then 1#8 else 0#8)
      ∧ (recordBytes h life held b word).length = declaredLength b.vouchers.length b.closing.isSome := by
  have marker := (tail_recordBytes h life held word (b := b) 0).1
  rw [Nat.add_zero] at marker
  rw [marker, recordBytes, List.length_append, length_headBytes, List.length_append, length_flatMap_width length_le32,
    List.length_append, length_le16]
  cases closing : b.closing with
  | none =>
    refine ⟨rfl, ?_⟩
    simp only [closeBytes, declaredLength, List.length_singleton, Option.isSome_none, Bool.false_eq_true, ↓reduceIte]
    omega
  | some c =>
    refine ⟨rfl, ?_⟩
    simp only [closeBytes, declaredLength, List.length_append, length_le32, List.length_singleton, Option.isSome_some,
      ↓reduceIte]
    omega

theorem closing_recordBytes : (bodyAt (recordBytes h life held b word)).closing = b.closing := by
  have count := voucherCount_recordBytes h life held word few
  have marker := (marker_recordBytes h life held word (b := b)).1
  have tail := tail_recordBytes h life held word (b := b)
  simp only [bodyAt, count, marker]
  cases closing : b.closing with
  | none => rfl
  | some c =>
    have balance : field32 (recordBytes h life held b word) (59 + 4 * b.vouchers.length) = c.balance := by
      rw [field32, show 59 + 4 * b.vouchers.length = 58 + 4 * b.vouchers.length + 1 by omega, (tail 1).2, closing]
      simp only [closeBytes, List.append_assoc, List.cons_append, List.nil_append, fieldAt_skipByte, fieldAt_le32,
        BitVec.ofNat_toNat, BitVec.setWidth_eq]
    have reason : byteAt (recordBytes h life held b word) (63 + 4 * b.vouchers.length) = c.reason := by
      rw [show 63 + 4 * b.vouchers.length = 58 + 4 * b.vouchers.length + 5 by omega, (tail 5).1, closing]
      simp only [closeBytes, List.append_assoc, List.cons_append, List.nil_append, byteAt_skipByte, byteAt_skip32,
        byteAt_head]
    rw [balance, reason]
    rfl

theorem bodyAt_recordBytes : bodyAt (recordBytes h life held b word) = { b with flags := b.flags &&& 1#8 } := by
  have vouchers := vouchers_recordBytes h life held word few
  have closing := closing_recordBytes h life held word few
  have whole := bodyAt_headBytes h life held b (b.vouchers.flatMap le32 ++ (closeBytes b.closing ++ le16 word))
  rw [← recordBytes, vouchers, closing] at whole
  exact whole

end Tail

theorem slotOf_handleOf (i : Slot) (g : Generation) : slotOf (handleOf i g) = i := by
  refine Fin.ext ?_
  have number := handleOf_toNat i g
  simp only [slotOf, number]
  omega

theorem generationOf_handleOf (i : Slot) (g : Generation) : generationOf (handleOf i g) = g.toNat := by
  rw [generationOf, handleOf_toNat]
  omega

theorem committedLife_lifeCode {l : Life} (committed : l = .free ∨ l = .waiting ∨ l = .live ∨ l = .settled) :
    committedLife (lifeCode l) = some l := by
  rcases committed with rfl | rfl | rfl | rfl <;> rfl

theorem heldCode_of_committed {l : Life} (committed : l = .free ∨ l = .waiting ∨ l = .live ∨ l = .settled) :
    heldCode l = 0#8 := by
  rcases committed with rfl | rfl | rfl | rfl <;> rfl

theorem Body.shown_shown (b : Body) (l : Life) : (b.shown l).shown l = b.shown l := by
  cases l with
  | quarantined held => cases held <;> rfl
  | free => rfl
  | waiting => rfl
  | live => rfl
  | settled => rfl
  | lost => rfl

/-- The values that a well formed record may hold (R139). -/
structure Body.WellFormed (b : Body) : Prop where
  channel : b.channel ≤ 7#8
  tariff : b.tariff ≤ 3#8
  credit : b.credit ≤ 4#8
  emergency : b.emergency ≤ 4#8
  flags : b.flags &&& 1#8 = b.flags
  vouchers : b.vouchers.length ≤ 4
  closing : ∀ c ∈ b.closing, c.reason ≤ 1#8

theorem serialise_eq (i : Slot) (x : SlotState) :
    serialise i x = recordBytes (handleOf i x.generation) (lifeCode x.life) (heldCode x.life) (x.body.shown x.life) x.word := by
  rw [serialise, covered_eq, recordBytes, List.append_assoc, List.append_assoc]

/-- Restore reads back from a serialised record what the life state shows of it (R9, R139). -/
theorem parseAccount_serialise (i : Slot) (x : SlotState)
    (committed : x.life = .free ∨ x.life = .waiting ∨ x.life = .live ∨ x.life = .settled)
    (free : x.life = .free ↔ x.generation = 0#11) (formed : (x.body.shown x.life).WellFormed) :
    parseAccount i (serialise i x)
      = some { life := x.life, generation := x.generation, body := x.body.shown x.life } := by
  have whole := serialise_eq i x
  obtain ⟨handle, life, held, -⟩ := headBytes_codes (handleOf i x.generation) (lifeCode x.life) (heldCode x.life)
    (x.body.shown x.life) ((x.body.shown x.life).vouchers.flatMap le32
      ++ (closeBytes (x.body.shown x.life).closing ++ le16 x.word))
  rw [← recordBytes, ← whole] at handle life held
  have count := voucherCount_recordBytes (handleOf i x.generation) (lifeCode x.life) (heldCode x.life) x.word formed.vouchers
  have body := bodyAt_recordBytes (handleOf i x.generation) (lifeCode x.life) (heldCode x.life) x.word formed.vouchers
  obtain ⟨marker, length⟩ := marker_recordBytes (handleOf i x.generation) (lifeCode x.life) (heldCode x.life) x.word
    (b := x.body.shown x.life)
  rw [← whole] at count body marker length
  rw [formed.flags] at body
  replace body : bodyAt (serialise i x) = x.body.shown x.life := body
  have markerSmall : (if (x.body.shown x.life).closing.isSome then 1#8 else 0#8) ≤ 1#8 := by split <;> decide
  have markerShows : ((if (x.body.shown x.life).closing.isSome then 1#8 else 0#8) == 1#8)
      = (x.body.shown x.life).closing.isSome := by cases (x.body.shown x.life).closing <;> rfl
  have generation : BitVec.ofNat 11 x.generation.toNat = x.generation := by rw [BitVec.ofNat_toNat, BitVec.setWidth_eq]
  have zero : x.generation.toNat = 0 ↔ x.generation = 0#11 :=
    ⟨fun none => BitVec.eq_of_toNat_eq none, fun none => by rw [none]; rfl⟩
  have closing : (x.body.shown x.life).closing.all (fun c => decide (c.reason ≤ 1#8)) = true := by
    cases info : (x.body.shown x.life).closing with
    | none => rfl
    | some c => exact decide_eq_true (formed.closing c info)
  simp only [parseAccount, life, committedLife_lifeCode committed, count, marker, handle, held, body, length, markerShows,
    heldCode_of_committed committed, slotOf_handleOf, generationOf_handleOf, generation, Body.shown_shown]
  exact if_pos ⟨formed.vouchers, markerSmall, trivial, trivial, free.trans zero.symm, by decide, formed.channel,
    formed.tariff, formed.credit, formed.emergency, closing⟩

theorem and_one_of_le (b : Byte) (small : b ≤ 1#8) : b &&& 1#8 = b := by
  revert b
  decide

theorem Body.absent_wellFormed : Body.absent.WellFormed :=
  ⟨by decide, by decide, by decide, by decide, by decide, by decide, nofun⟩

/-- Settles O13: every field of an item is read back from its place. -/
theorem itemsReadBack : Obligations.ItemsReadBack := by
  unfold Obligations.ItemsReadBack
  refine ⟨fun i x account used channel tariff credit emergency flags few closing => ?_, fun i counter => ?_,
    parseTariff_tariffBytes, parseSettings_settingsBytes⟩
  · have unflagged := and_one_of_le x.body.flags flags
    have notFree : ¬x.life = .free := by rcases account with life | life | life <;> rw [life] <;> nofun
    refine parseAccount_serialise i x (.inr account) ⟨fun free => absurd free notFree, fun zero => absurd zero used⟩ ?_
    rcases account with life | life | life <;> rw [life]
    · exact ⟨channel, tariff, (by decide : 0#8 ≤ 4#8), emergency, unflagged, few, nofun⟩
    · exact ⟨channel, tariff, credit, emergency, unflagged, few, nofun⟩
    · exact ⟨channel, tariff, (by decide : 0#8 ≤ 4#8), emergency, unflagged, few, fun c info => by rw [closing c info]; decide⟩
  · obtain ⟨life, generation, -, body⟩ := freeForm_spec i counter
    have read := parseAccount_serialise i (freeForm i counter) (.inl life)
      ⟨fun _ => generation, fun _ => life⟩ (by rw [life]; exact Body.absent_wellFormed)
    rw [life, generation] at read
    exact read

end AccountItems

end Sys2Proof.Machine
end

section
/-! Proofs about accounts that leave a channel's list (R24 to R27): promotion, CLOSE (R32, R33) and DISCARD (R38). -/

set_option Elab.async false

namespace Sys2Proof.Machine

/-! ## Handles, lists and the record that a promotion leaves -/

section Lists

variable {s u : State} {n : Channel} {i j : Slot} {h : Handle} {rest : List Handle}

theorem State.slotOf_handleAt (s : State) (i : Slot) : slotOf (s.handleAt i) = i := slotOf_handleOf i _

/-- A handle that resolves is the handle of its slot (R3). -/
theorem State.handleAt_of_resolve (resolved : s.resolve h = some i) : s.handleAt i = h := by
  obtain ⟨rfl, -, -, generation⟩ := (s.resolve_eq_some_iff h i).mp resolved
  have number : (s.handleAt (slotOf h)).toNat = h.toNat := by
    rw [State.handleAt, handleOf_toNat, generation, generationOf]
    simp only [slotOf]
    omega
  exact BitVec.eq_of_toNat_eq number

theorem State.handleAt_ne (apart : i ≠ j) : s.handleAt i ≠ u.handleAt j := fun same => by
  have slots := congrArg slotOf same
  rw [State.slotOf_handleAt, State.slotOf_handleAt] at slots
  exact apart slots

theorem State.setList_self (s : State) (n : Channel) : s.setList n (s.listAt n) = s := by
  simp [State.setList, State.listAt]

theorem State.setList_lists (s : State) (n : Channel) (l : List Handle) :
    (s.setList n l).store.lists = s.store.lists.set n l := rfl

theorem State.channelOf_of_listed (listed : h ∈ s.listAt n) (alone : ∀ m, m ≠ n → h ∉ s.listAt m) :
    s.channelOf h = some n := by
  cases found : s.channelOf h with
  | none =>
    have unlisted := List.find?_eq_none.mp found n (List.mem_finRange n)
    exact absurd (List.contains_iff_mem.mpr listed) unlisted
  | some m =>
    have here := List.contains_iff_mem.mp (List.find?_some (p := fun n => (s.listAt n).contains h) found)
    by_cases same : m = n
    · rw [same]
    · exact absurd here (alone m same)

theorem State.channelOf_of_unlisted (unlisted : ∀ m, h ∉ s.listAt m) : s.channelOf h = none :=
  List.find?_eq_none.mpr fun m _ here => unlisted m (List.contains_iff_mem.mp here)

theorem State.leaveList_of_unlisted (s0 : State) (unlisted : s0.channelOf (s0.handleAt i) = none) :
    s.leaveList s0 i = (s, none) := by
  simp only [State.leaveList, unlisted]

theorem State.leaveList_of_behind (s0 : State) (listed : s0.channelOf (s0.handleAt i) = some n)
    (behind : s0.occupant n ≠ some i) :
    s.leaveList s0 i = (s.setList n ((s.listAt n).erase (s0.handleAt i)), none) := by
  simp only [State.leaveList, listed, if_neg behind]

theorem State.leaveList_of_occupant (s0 : State) (listed : s0.channelOf (s0.handleAt i) = some n)
    (occupant : s0.occupant n = some i) :
    s.leaveList s0 i = (s.setList n ((s.listAt n).erase (s0.handleAt i))).promote n := by
  simp only [State.leaveList, listed, if_pos occupant]

/-- Where no account behind the departing occupant waits, the channel promotes none (R26). -/
theorem State.promote_of_none (list : s.listAt n = rest) (intact : ∀ g ∈ rest, s.intactAt (slotOf g) = true)
    (none : ∀ g ∈ rest, s.lifeAt (slotOf g) ≠ .waiting) : s.promote n = (s, .none) := by
  rw [State.promote, list]
  rcases s.promoteFrom_cases n rest intact with ⟨-, same⟩ | ⟨before, g, after, split, -, waiting, -⟩
  · exact same
  · exact absurd waiting (none g (by simp [split]))

/-- The waiting account next in the list takes the first place (R26, R27). -/
theorem State.promote_of_next (list : s.listAt n = s.handleAt j :: rest) (intact : s.intactAt j = true)
    (waiting : s.lifeAt j = .waiting) : s.promote n = (s.makeOccupant j, some j) := by
  have place : s.setList n (s.handleAt j :: (s.handleAt j :: rest).erase (s.handleAt j)) = s := by
    rw [List.erase_cons_head, ← list, State.setList_self]
  simp only [State.promote, list, State.promoteFrom, State.slotOf_handleAt, s.check_of_intact j intact, waiting, place]

/-- The record that a promotion leaves: LIVE, its credit state found from none (R27). -/
def State.occupantRecord (s : State) (j : Slot) : SlotState :=
  SlotState.sealed { s.slotAt j with life := .live, body := (s.bodyAt j).promoted } j

/-- A promotion as one change: the record, its raises and its dirtying (R27). -/
theorem State.makeOccupant_eq (s : State) (j : Slot) :
    s.makeOccupant j
      = { s.setSlot j (s.occupantRecord j) with
          au := { s.au with inbox := s.au.inbox ++ (entryMessages j 0#8 (s.bodyAt j).promoted.credit
            ++ [.raised .store (.slot j .promoted)]) }
          ru := { s.ru with inbox := s.ru.inbox ++ [(.store, .account j)] } } := by
  simp only [State.makeOccupant, State.raiseEntered_eq, State.raiseSlot, State.raise, State.setAu, State.dirtyAccount,
    State.dirty, State.setRu, State.putRecord, List.append_assoc]
  rfl

theorem State.occupantRecord_congr {s u : State} (slot : u.slotAt j = s.slotAt j) : u.occupantRecord j = s.occupantRecord j := by
  rw [State.occupantRecord, State.occupantRecord, State.bodyAt, State.bodyAt, slot]

/-- The record of a promoted account (R27). -/
theorem State.occupantRecord_spec (s : State) (j : Slot) :
    (s.occupantRecord j).life = .live ∧ (s.occupantRecord j).generation = (s.slotAt j).generation
      ∧ (s.occupantRecord j).body = { s.bodyAt j with credit := ((s.bodyAt j).evaluated false).credit }
      ∧ (s.occupantRecord j).intact j = true := by
  rw [State.occupantRecord, SlotState.sealed_life, SlotState.sealed_generation, SlotState.sealed_body]
  exact ⟨rfl, rfl, rfl, SlotState.sealed_intact _ j⟩

theorem State.makeOccupant_slotAt (s : State) (j k : Slot) :
    (s.makeOccupant j).slotAt k = if j = k then s.occupantRecord j else s.slotAt k := by
  rw [State.makeOccupant_eq]
  exact s.setSlot_slotAt j k _

theorem State.makeOccupant_lists (s : State) (j : Slot) : (s.makeOccupant j).store.lists = s.store.lists := by
  rw [State.makeOccupant_eq]
  rfl

theorem State.makeOccupant_au (s : State) (j : Slot) :
    (s.makeOccupant j).au = { s.au with
      inbox := s.au.inbox
        ++ (entryMessages j 0#8 (s.bodyAt j).promoted.credit ++ [.raised .store (.slot j .promoted)]) } := by
  rw [State.makeOccupant_eq]

theorem State.makeOccupant_ru (s : State) (j : Slot) :
    (s.makeOccupant j).ru = { s.ru with inbox := s.ru.inbox ++ [(.store, .account j)] } := by
  rw [State.makeOccupant_eq]

/-! ## The three ways of leaving a list -/

/-- An occupant with a waiting successor leaves: the successor takes the first place (R26). -/
theorem State.leaveList_of_successor (lists : u.store.lists = s.store.lists)
    (listed : s.listAt n = s.handleAt i :: s.handleAt j :: rest) (alone : ∀ m, m ≠ n → s.handleAt i ∉ s.listAt m)
    (occupied : occupies (s.lifeAt i) = true) (slot : u.slotAt j = s.slotAt j) (intact : s.intactAt j = true)
    (waiting : s.lifeAt j = .waiting) :
    u.leaveList s i = ((u.setList n (s.handleAt j :: rest)).makeOccupant j, some j) := by
  have channel := State.channelOf_of_listed (by rw [listed]; exact List.mem_cons_self) alone
  have occupant : s.occupant n = some i :=
    State.occupant_eq_some_iff.mpr ⟨_, _, listed, s.slotOf_handleAt i, occupied⟩
  have handle : (u.setList n (s.handleAt j :: rest)).handleAt j = s.handleAt j := by
    rw [State.handleAt, State.setList_slotAt, slot, State.handleAt]
  have place : (u.setList n (s.handleAt j :: rest)).listAt n
      = (u.setList n (s.handleAt j :: rest)).handleAt j :: rest := by
    rw [State.setList_listAt, if_pos rfl, handle]
  rw [State.leaveList_of_occupant s channel occupant, State.listAt_congr lists, listed, List.erase_cons_head]
  refine State.promote_of_next place ?_ ?_
  · rw [State.intactAt, State.setList_slotAt, slot]
    exact intact
  · rw [State.lifeAt, State.setList_slotAt, slot]
    exact waiting

/-- Between `u` and `v` the account of slot j has become the occupant of channel n, at the head of the list `l`, with the
record `x` (R26, R27). -/
structure State.Promotes (u v : State) (n : Channel) (j : Slot) (x : SlotState) (l : List Handle) : Prop where
  slots : ∀ k, v.slotAt k = if j = k then x else u.slotAt k
  lists : v.store.lists = u.store.lists.set n l
  attention : v.au = { u.au with
    inbox := u.au.inbox ++ (entryMessages j 0#8 x.body.credit ++ [.raised .store (.slot j .promoted)]) }
  retention : v.ru = { u.ru with inbox := u.ru.inbox ++ [(.store, .account j)] }

theorem State.promotes_makeOccupant (slot : u.slotAt j = s.slotAt j) (l : List Handle) :
    u.Promotes ((u.setList n l).makeOccupant j) n j (s.occupantRecord j) l where
  slots k := by
    rw [State.makeOccupant_slotAt, State.setList_slotAt, State.occupantRecord_congr ((State.setList_slotAt ..).trans slot)]
  lists := (State.makeOccupant_lists ..).trans (State.setList_lists ..)
  attention := by
    have body : (u.setList n l).bodyAt j = s.bodyAt j := by
      rw [State.bodyAt, State.setList_slotAt, slot, State.bodyAt]
    have record : (s.occupantRecord j).body = (s.bodyAt j).promoted := SlotState.sealed_body _ j
    rw [State.makeOccupant_au, body, record]
    rfl
  retention := State.makeOccupant_ru _ j

/-- The effect of an occupant's leaving that has a waiting successor (R26, R27). -/
theorem State.exists_leaveList_of_successor (lists : u.store.lists = s.store.lists)
    (listed : s.listAt n = s.handleAt i :: s.handleAt j :: rest) (alone : ∀ m, m ≠ n → s.handleAt i ∉ s.listAt m)
    (occupied : occupies (s.lifeAt i) = true) (slot : u.slotAt j = s.slotAt j) (intact : s.intactAt j = true)
    (waiting : s.lifeAt j = .waiting) :
    ∃ v, u.leaveList s i = (v, some j) ∧ u.Promotes v n j (s.occupantRecord j) (s.handleAt j :: rest) :=
  ⟨_, State.leaveList_of_successor lists listed alone occupied slot intact waiting, State.promotes_makeOccupant slot _⟩

/-- An occupant behind which none waits leaves: the channel falls vacant (R26). -/
theorem State.leaveList_of_last (lists : u.store.lists = s.store.lists) (listed : s.listAt n = s.handleAt i :: rest)
    (alone : ∀ m, m ≠ n → s.handleAt i ∉ s.listAt m) (occupied : occupies (s.lifeAt i) = true)
    (intact : ∀ g ∈ rest, u.intactAt (slotOf g) = true) (none : ∀ g ∈ rest, u.lifeAt (slotOf g) ≠ .waiting) :
    u.leaveList s i = (u.setList n rest, .none) := by
  have channel := State.channelOf_of_listed (by rw [listed]; exact List.mem_cons_self) alone
  have occupant : s.occupant n = some i :=
    State.occupant_eq_some_iff.mpr ⟨_, _, listed, s.slotOf_handleAt i, occupied⟩
  rw [State.leaveList_of_occupant s channel occupant, State.listAt_congr lists, listed, List.erase_cons_head]
  exact State.promote_of_none (by rw [State.setList_listAt, if_pos rfl]) intact none

/-- An account that is no occupant leaves its place (R26). -/
theorem State.leaveList_of_listed (lists : u.store.lists = s.store.lists) (listed : s.handleAt i ∈ s.listAt n)
    (alone : ∀ m, m ≠ n → s.handleAt i ∉ s.listAt m) (behind : s.occupant n ≠ some i) :
    u.leaveList s i = (u.setList n ((s.listAt n).erase (s.handleAt i)), none) := by
  rw [State.leaveList_of_behind s (State.channelOf_of_listed listed alone) behind, State.listAt_congr lists]

/-- An account that occupies no channel leaves whatever list holds it, and no other place changes (R26). -/
theorem State.exists_leaveList_of_no_occupant (lists : u.store.lists = s.store.lists)
    (once : ∀ m m', s.handleAt i ∈ s.listAt m → s.handleAt i ∈ s.listAt m' → m = m') (free : ∀ m, s.occupant m ≠ some i) :
    ∃ v, u.leaveList s i = (v, .none) ∧ (∀ m, v.listAt m = (s.listAt m).erase (s.handleAt i))
      ∧ (∀ k, v.slotAt k = u.slotAt k) ∧ v.au = u.au ∧ v.ru = u.ru := by
  by_cases listed : ∃ n, s.handleAt i ∈ s.listAt n
  · obtain ⟨n, here⟩ := listed
    have alone (m : Channel) (other : m ≠ n) : s.handleAt i ∉ s.listAt m := fun there => other (once m n there here)
    refine ⟨_, State.leaveList_of_listed lists here alone (free n), fun m => ?_, fun k => State.setList_slotAt .., rfl, rfl⟩
    rw [State.setList_listAt, State.listAt_congr lists]
    split
    case isTrue same => rw [same]
    case isFalse other => rw [List.erase_of_not_mem (alone m (Ne.symm other))]
  · have unlisted (m : Channel) : s.handleAt i ∉ s.listAt m := fun here => listed ⟨m, here⟩
    refine ⟨u, State.leaveList_of_unlisted s (State.channelOf_of_unlisted unlisted), fun m => ?_, fun _ => rfl, rfl, rfl⟩
    rw [List.erase_of_not_mem (unlisted m), State.listAt_congr lists]

/-- The view of a channel whose first account is LIVE (R28). -/
theorem State.viewOf_of_first (list : s.listAt n = s.handleAt j :: rest) (live : s.lifeAt j = .live) :
    s.viewOf n = .live (s.handleAt j) (creditOfCode (s.bodyAt j).credit) (emergencyOfCode (s.bodyAt j).emergency) :=
  State.viewOf_of_live (State.occupant_eq_some_iff.mpr ⟨_, _, list, s.slotOf_handleAt j, by rw [live]; rfl⟩) live

/-- A channel whose first account does not occupy it is shown vacant (R25, R28). -/
theorem State.viewOf_of_unoccupied (free : ∀ hd tl, s.listAt n = hd :: tl → occupies (s.lifeAt (slotOf hd)) = false) :
    s.viewOf n = .vacant := by
  refine State.viewOf_of_vacant (Option.eq_none_iff_forall_ne_some.mpr fun i occupant => ?_)
  obtain ⟨hd, tl, list, rfl, occupied⟩ := State.occupant_eq_some_iff.mp occupant
  exact Bool.false_ne_true ((free hd tl list).symm.trans occupied)

/-- The view of a channel depends on no place but the first (R28). -/
theorem State.viewOf_eq_of_first {t : State} {hd : Handle} {tl tl' : List Handle} (before : s.listAt n = hd :: tl)
    (after : t.listAt n = hd :: tl') (alike : (t.slotAt (slotOf hd)).Alike (s.slotAt (slotOf hd))) :
    t.viewOf n = s.viewOf n := by
  have behind : (s.setList n (hd :: tl')).listAt n = hd :: tl' := by rw [State.setList_listAt, if_pos rfl]
  have shortened : (s.setList n (hd :: tl')).viewOf n = s.viewOf n := by
    unfold State.viewOf State.occupant
    rw [behind, before]
    rfl
  refine .trans (State.viewOf_eq_of_head (after.trans behind.symm) fun g gs list => ?_) shortened
  obtain ⟨rfl, -⟩ := List.cons.inj (behind.symm.trans list)
  rw [State.setList_slotAt]
  exact alike

/-- The LIVE accounts of two slots give different views. -/
theorem View.live_ne {c c' : Option Credit} {e e' : Option Emergency} (apart : i ≠ j) :
    View.live (u.handleAt j) c e ≠ View.live (s.handleAt i) c' e' := fun same =>
  State.handleAt_ne apart (View.live.inj same).1.symm

theorem State.listAt_of_set {v : State} {l : List Handle} (lists : v.store.lists = s.store.lists.set n l) (m : Channel) :
    v.listAt m = if n = m then l else s.listAt m := by
  rw [← State.setList_listAt, State.listAt, lists, ← State.setList_lists, State.listAt]

theorem State.handleAt_of_promoted {v : State} (slot : v.slotAt j = s.occupantRecord j) :
    v.handleAt j = s.handleAt j := by
  rw [State.handleAt, slot, (s.occupantRecord_spec j).2.1, State.handleAt]

/-- The view of a channel whose first account has been promoted (R27, R28). -/
theorem State.viewOf_of_promoted {v : State} (slot : v.slotAt j = s.occupantRecord j)
    (list : v.listAt n = s.handleAt j :: rest) :
    v.viewOf n = .live (s.handleAt j) (creditOfCode ((s.bodyAt j).evaluated false).credit)
      (emergencyOfCode (s.bodyAt j).emergency) := by
  obtain ⟨live, -, body, -⟩ := s.occupantRecord_spec j
  have handle := State.handleAt_of_promoted slot
  rw [State.viewOf_of_first (list.trans (by rw [handle])) (by rw [State.lifeAt, slot, live]), handle, State.bodyAt, slot,
    body]

end Lists

/-! ## What a claim at the Store leaves of the other blocks -/

/-- Between `s` and `u` no block has changed but the Store, the Attention Unit and the Retention Unit, and of the Store not
the open serial. -/
structure State.StoreWork (s u : State) : Prop where
  tariffs : u.tu = s.tu
  levy : u.le = s.le
  quantizers : u.cq = s.cq
  supplies : u.sc = s.sc
  link : u.hl = s.hl
  engine : u.re = s.re
  openSerial : u.store.openSerial = s.store.openSerial

namespace State.StoreWork

variable {s u : State} {t : Taken} {q : Request} {c : Claim} {n : Channel} {i : Slot}

theorem trans {v : State} (first : s.StoreWork u) (next : u.StoreWork v) : s.StoreWork v where
  tariffs := next.tariffs.trans first.tariffs
  levy := next.levy.trans first.levy
  quantizers := next.quantizers.trans first.quantizers
  supplies := next.supplies.trans first.supplies
  link := next.link.trans first.link
  engine := next.engine.trans first.engine
  openSerial := next.openSerial.trans first.openSerial

theorem putRecord (s : State) (i : Slot) (x : SlotState) : s.StoreWork (s.putRecord i x) := ⟨rfl, rfl, rfl, rfl, rfl, rfl, rfl⟩

theorem setList (s : State) (n : Channel) (l : List Handle) : s.StoreWork (s.setList n l) := ⟨rfl, rfl, rfl, rfl, rfl, rfl, rfl⟩

theorem setRu (s : State) (r : Retention) : s.StoreWork (s.setRu r) := ⟨rfl, rfl, rfl, rfl, rfl, rfl, rfl⟩

theorem dirtyAccount (s : State) (i : Slot) : s.StoreWork (s.dirtyAccount i) := ⟨rfl, rfl, rfl, rfl, rfl, rfl, rfl⟩

theorem freeSlotAt (s : State) (i : Slot) : s.StoreWork (s.freeSlotAt i) := ⟨rfl, rfl, rfl, rfl, rfl, rfl, rfl⟩

theorem raiseEntered (s : State) (i : Slot) (a b : Byte) : s.StoreWork (s.raiseEntered i a b) := by
  constructor <;> simp

theorem leaveList (s s0 : State) (i : Slot) : s.StoreWork (s.leaveList s0 i).1 := by
  constructor <;> simp

/-- What the end of a claim leaves at a controller: its notice, if the view changed (R28). -/
theorem finishClaim_scAt (work : s.StoreWork t.state) (n : Channel) :
    (s.finishClaim t).scAt n
      = { s.scAt n with
          notices := (s.scAt n).notices ++ (if t.state.viewOf n = s.viewOf n then [] else [t.state.viewOf n]) } := by
  rw [State.finishClaim_scAt, scAt_congr work.supplies n]

theorem scAt_of_same (work : s.StoreWork t.state) (same : t.state.viewOf n = s.viewOf n) :
    (s.finishClaim t).scAt n = s.scAt n := by
  rw [work.finishClaim_scAt, if_pos same, List.append_nil]

theorem notices_of_changed {v : View} (work : s.StoreWork t.state) (shown : t.state.viewOf n = v)
    (changed : v ≠ s.viewOf n) : ((s.finishClaim t).scAt n).notices = (s.scAt n).notices ++ [v] := by
  rw [work.finishClaim_scAt, if_neg (shown ▸ changed), shown]

theorem finishClaim_sc (work : s.StoreWork t.state) (views : ∀ n, t.state.viewOf n = s.viewOf n) :
    (s.finishClaim t).sc = s.sc := State.finishClaim_sc work.supplies views

theorem answered (work : s.StoreWork t.state) (hq : s.Serves q c) :
    (s.finishClaim t).Answered q t.outcome t.payload := State.finishClaim_answered hq work.engine

/-- The end of a claim adds nothing to what its work at the Store leaves of the other blocks (R18). -/
theorem finishClaim_kept (work : s.StoreWork t.state) :
    (s.finishClaim t).store.openSerial = s.store.openSerial ∧ (s.finishClaim t).cq = s.cq ∧ (s.finishClaim t).le = s.le
      ∧ (s.finishClaim t).tu = s.tu ∧ (s.finishClaim t).hl = s.hl := by
  rw [State.finishClaim_store, State.finishClaim_cq, State.finishClaim_le, State.finishClaim_tu, State.finishClaim_hl]
  exact ⟨work.openSerial, work.quantizers, work.levy, work.tariffs, work.link⟩

end State.StoreWork

end Sys2Proof.Machine
end

section
/-! Proofs about CLOSE (R26, R27, R32, R33). -/

set_option Elab.async false

namespace Sys2Proof.Machine

section Close

variable {s : State} {q : Request} {expected : Option (BitVec 16)} {n : Channel} {i j : Slot} {rest : List Handle}

/-- The record that CLOSE leaves (R32). -/
def State.closedRecord (s : State) (i : Slot) : SlotState :=
  SlotState.sealed { s.slotAt i with life := .settled, body := (s.bodyAt i).closed } i

theorem State.closedRecord_spec (s : State) (i : Slot) :
    (s.closedRecord i).life = .settled ∧ (s.closedRecord i).generation = (s.slotAt i).generation
      ∧ (s.closedRecord i).body = { s.bodyAt i with
          closing := some { balance := (s.bodyAt i).balance, reason := 1#8 }, credit := 0#8
          version := (s.bodyAt i).version + 1#16 }
      ∧ (s.closedRecord i).intact i = true := by
  rw [State.closedRecord, SlotState.sealed_life, SlotState.sealed_generation, SlotState.sealed_body]
  exact ⟨rfl, rfl, rfl, SlotState.sealed_intact _ i⟩

/-- The state with the closed record written and its item dirtied, before the account leaves its list. -/
def State.closing (s : State) (i : Slot) : State :=
  (s.putRecord i { s.slotAt i with life := .settled, body := (s.bodyAt i).closed }).dirtyAccount i

theorem State.closing_slotAt (s : State) (i k : Slot) :
    (s.closing i).slotAt k = if i = k then s.closedRecord i else s.slotAt k := s.putRecord_slotAt i k _

theorem State.closeAt_eq {after : State} {promoted : Option Slot} (left : (s.closing i).leaveList s i = (after, promoted)) :
    s.closeAt i
      = { state := after, outcome := .ok
          payload := le32 (s.bodyAt i).balance ++ le16 ((s.bodyAt i).version + 1#16)
            ++ le16 (after.promotedHandle promoted) } := by
  have whole : s.closeAt i
      = { state := ((s.closing i).leaveList s i).1, outcome := .ok
          payload := le32 (s.bodyAt i).balance ++ le16 ((s.bodyAt i).version + 1#16)
            ++ le16 (((s.closing i).leaveList s i).1.promotedHandle ((s.closing i).leaveList s i).2) } := rfl
  rw [whole, left]

theorem State.close_of_passes (resolved : s.resolve (s.handleAt i) = some i) (intact : s.intactAt i = true)
    (isOpen : s.lifeAt i = .live ∨ s.lifeAt i = .waiting)
    (current : expected = none ∨ expected = some (s.bodyAt i).version) :
    s.close (s.handleAt i) expected = s.closeAt i := by
  have fresh := (staleVersion_eq_false_iff _ _).mpr current
  simp [State.close, State.named_of_open resolved intact isOpen, unsettled_of_open isOpen, fresh]

/-- A CLOSE that is taken, with the state that leaving the list ends in. -/
theorem exec_close_of_left {after : State} {promoted : Option Slot} (hq : s.Serves q (.close (s.handleAt i) expected))
    (ht : s.storeTakes = true) (resolved : s.resolve (s.handleAt i) = some i) (intact : s.intactAt i = true)
    (isOpen : s.lifeAt i = .live ∨ s.lifeAt i = .waiting)
    (current : expected = none ∨ expected = some (s.bodyAt i).version)
    (left : (s.closing i).leaveList s i = (after, promoted)) :
    exec .close s
      = .next (s.finishClaim
          { state := after, outcome := .ok
            payload := le32 (s.bodyAt i).balance ++ le16 ((s.bodyAt i).version + 1#16)
              ++ le16 (after.promotedHandle promoted) }) := by
  rw [exec_of_wholeClaim rfl hq ht, State.close_of_passes resolved intact isOpen current, State.closeAt_eq left]

theorem State.closing_lists (s : State) (i : Slot) : (s.closing i).store.lists = s.store.lists := by simp [State.closing]

theorem State.closing_au (s : State) (i : Slot) : (s.closing i).au = s.au := by simp [State.closing]

theorem State.closing_ru (s : State) (i : Slot) :
    (s.closing i).ru = { s.ru with inbox := s.ru.inbox ++ [(.store, .account i)] } := by simp [State.closing]

theorem State.closing_storeWork (s : State) (i : Slot) : s.StoreWork (s.closing i) :=
  (State.StoreWork.putRecord s i _).trans (State.StoreWork.dirtyAccount _ i)

/-- A CLOSE of an occupant with a waiting successor (R26, R33). -/
theorem close_of_successor (hq : s.Serves q (.close (s.handleAt i) expected)) (ht : s.storeTakes = true)
    (resolved : s.resolve (s.handleAt i) = some i) (law : s.IntegrityLaw) (live : s.lifeAt i = .live)
    (waiting : s.lifeAt j = .waiting) (current : expected = none ∨ expected = some (s.bodyAt i).version)
    (listed : s.listAt n = s.handleAt i :: s.handleAt j :: rest) (alone : ∀ m, m ≠ n → s.handleAt i ∉ s.listAt m)
    (elsewhere : ∀ m, m ≠ n → s.occupant m ≠ some i ∧ s.occupant m ≠ some j)
    (firsts : ∀ m hd tl, m ≠ n → s.listAt m = hd :: tl → slotOf hd ≠ j) :
    ∃ t, exec .close s = .next t
      ∧ t.lifeAt i = .settled
      ∧ t.bodyAt i = { s.bodyAt i with
          closing := some { balance := (s.bodyAt i).balance, reason := 1#8 }, credit := 0#8
          version := (s.bodyAt i).version + 1#16 }
      ∧ t.lifeAt j = .live ∧ t.bodyAt j = { s.bodyAt j with credit := ((s.bodyAt j).evaluated false).credit }
      ∧ t.intactAt i = true ∧ t.intactAt j = true
      ∧ (∀ k, k ≠ i → k ≠ j → t.slotAt k = s.slotAt k)
      ∧ t.store.lists = s.store.lists.set n (s.handleAt j :: rest)
      ∧ t.store.openSerial = s.store.openSerial
      ∧ t.au = { s.au with
          inbox := s.au.inbox ++ entryMessages j 0#8 ((s.bodyAt j).evaluated false).credit
            ++ [.raised .store (.slot j .promoted)] }
      ∧ t.ru = { s.ru with inbox := s.ru.inbox ++ [(.store, .account i), (.store, .account j)] }
      ∧ (t.scAt n).notices = (s.scAt n).notices
          ++ [.live (s.handleAt j) (creditOfCode ((s.bodyAt j).evaluated false).credit)
            (emergencyOfCode (s.bodyAt j).emergency)]
      ∧ (∀ m, m ≠ n → t.scAt m = s.scAt m)
      ∧ t.tu = s.tu ∧ t.le = s.le ∧ t.cq = s.cq ∧ t.hl = s.hl
      ∧ t.Answered q .ok (le32 (s.bodyAt i).balance ++ le16 ((s.bodyAt i).version + 1#16) ++ le16 (s.handleAt j)) := by
  have apart : i ≠ j := fun same => by
    rw [same, waiting] at live
    exact absurd live nofun
  have untouched : (s.closing i).slotAt j = s.slotAt j := by rw [State.closing_slotAt, if_neg apart]
  obtain ⟨after, left, promotes⟩ := State.exists_leaveList_of_successor (u := s.closing i) (State.closing_lists s i)
    listed alone (by rw [live]; rfl) untouched (law j) waiting
  have work : s.StoreWork after := by
    simpa only [left] using (State.closing_storeWork s i).trans (State.StoreWork.leaveList (s.closing i) s i)
  have slots (k : Slot) : after.slotAt k
      = if j = k then s.occupantRecord j else if i = k then s.closedRecord i else s.slotAt k := by
    rw [promotes.slots, State.closing_slotAt]
  have first : after.slotAt i = s.closedRecord i := by rw [slots, if_neg (Ne.symm apart), if_pos rfl]
  have second : after.slotAt j = s.occupantRecord j := by rw [slots, if_pos rfl]
  have lists : after.store.lists = s.store.lists.set n (s.handleAt j :: rest) := by
    rw [promotes.lists, State.closing_lists]
  obtain ⟨settled, -, closed, sealed⟩ := s.closedRecord_spec i
  obtain ⟨promoted, -, body, sealed'⟩ := s.occupantRecord_spec j
  let t : Taken :=
    { state := after, outcome := .ok
      payload := le32 (s.bodyAt i).balance ++ le16 ((s.bodyAt i).version + 1#16)
        ++ le16 (after.promotedHandle (some j)) }
  have runs : exec .close s = .next (s.finishClaim t) :=
    exec_close_of_left hq ht resolved (law i) (.inl live) current left
  have shown := State.viewOf_of_promoted second ((State.listAt_of_set lists n).trans (if_pos rfl))
  have before := State.viewOf_of_first listed live
  have elsewhere (m : Channel) (other : m ≠ n) : after.viewOf m = s.viewOf m := by
    refine State.viewOf_eq_of_head ((State.listAt_of_set lists m).trans (if_neg other.symm)) fun hd tl list => ?_
    have notSecond := firsts m hd tl other list
    have notFirst : slotOf hd ≠ i := fun same =>
      (elsewhere m other).1 (State.occupant_eq_some_iff.mpr ⟨hd, tl, list, same, by rw [live]; rfl⟩)
    rw [slots, if_neg (Ne.symm notSecond), if_neg (Ne.symm notFirst)]
    exact .refl _
  obtain ⟨openSerial, quantizers, levy, tariffs, link⟩ := State.StoreWork.finishClaim_kept (t := t) work
  refine ⟨s.finishClaim t, runs, ?_, ?_, ?_, ?_, ?_, ?_, fun k notFirst notSecond => ?_, ?_, openSerial, ?_, ?_,
    work.notices_of_changed (t := t) shown ?_, fun m other => work.scAt_of_same (t := t) (elsewhere m other), tariffs, levy,
    quantizers, link, ?_⟩
  · rw [State.lifeAt, State.finishClaim_slotAt, first, settled]
  · rw [State.bodyAt, State.finishClaim_slotAt, first, closed]
  · rw [State.lifeAt, State.finishClaim_slotAt, second, promoted]
  · rw [State.bodyAt, State.finishClaim_slotAt, second, body]
  · rw [State.intactAt, State.finishClaim_slotAt, first, sealed]
  · rw [State.intactAt, State.finishClaim_slotAt, second, sealed']
  · rw [State.finishClaim_slotAt, slots, if_neg (Ne.symm notSecond), if_neg (Ne.symm notFirst)]
  · rw [State.finishClaim_store, lists]
  · rw [State.finishClaim_au, promotes.attention, State.closing_au, body, ← List.append_assoc]
  · rw [State.finishClaim_ru, promotes.retention, State.closing_ru, List.append_assoc]
    rfl
  · rw [before]
    exact View.live_ne apart
  · have handle : after.promotedHandle (some j) = s.handleAt j := State.handleAt_of_promoted second
    rw [← handle]
    exact work.answered (t := t) hq

/-- What a CLOSE that promotes none leaves: the settled record, one dirtying, and nothing else beside the lists. -/
theorem close_settled {after : State} (hq : s.Serves q (.close (s.handleAt i) expected))
    (left : (s.closing i).leaveList s i = (after, none)) (slots : after.store.slots = (s.closing i).store.slots)
    (au : after.au = (s.closing i).au) (ru : after.ru = (s.closing i).ru) :
    let t := s.finishClaim
      { state := after, outcome := .ok
        payload := le32 (s.bodyAt i).balance ++ le16 ((s.bodyAt i).version + 1#16) ++ le16 (after.promotedHandle none) }
    t.lifeAt i = .settled
      ∧ t.bodyAt i = { s.bodyAt i with
          closing := some { balance := (s.bodyAt i).balance, reason := 1#8 }, credit := 0#8
          version := (s.bodyAt i).version + 1#16 }
      ∧ (t.slotAt i).generation = (s.slotAt i).generation ∧ t.intactAt i = true
      ∧ (∀ k, k ≠ i → t.slotAt k = s.slotAt k) ∧ t.store.openSerial = s.store.openSerial
      ∧ t.au = s.au ∧ t.ru = { s.ru with inbox := s.ru.inbox ++ [(.store, .account i)] }
      ∧ t.tu = s.tu ∧ t.le = s.le ∧ t.cq = s.cq ∧ t.hl = s.hl
      ∧ t.Answered q .ok (le32 (s.bodyAt i).balance ++ le16 ((s.bodyAt i).version + 1#16) ++ le16 0#16) := by
  intro t
  have slots (k : Slot) : after.slotAt k = if i = k then s.closedRecord i else s.slotAt k := by
    rw [← State.closing_slotAt, State.slotAt, slots, State.slotAt]
  have first : t.slotAt i = s.closedRecord i := (State.finishClaim_slotAt i).trans ((slots i).trans (if_pos rfl))
  have work : s.StoreWork after := by
    simpa only [left] using (State.closing_storeWork s i).trans (State.StoreWork.leaveList (s.closing i) s i)
  obtain ⟨settled, generation, closed, sealed⟩ := s.closedRecord_spec i
  obtain ⟨openSerial, quantizers, levy, tariffs, link⟩ := State.StoreWork.finishClaim_kept
    (t := ⟨after, .ok, le32 (s.bodyAt i).balance ++ le16 ((s.bodyAt i).version + 1#16)
      ++ le16 (after.promotedHandle none)⟩) work
  refine ⟨?_, ?_, ?_, ?_, fun k other => ?_, openSerial, ?_, ?_, tariffs, levy, quantizers, link,
    State.StoreWork.answered (t := ⟨after, .ok, _⟩) work hq⟩
  · rw [State.lifeAt, first, settled]
  · rw [State.bodyAt, first, closed]
  · rw [first, generation]
  · rw [State.intactAt, first, sealed]
  · exact (State.finishClaim_slotAt k).trans ((slots k).trans (if_neg (Ne.symm other)))
  · exact State.finishClaim_au.trans (au.trans (State.closing_au s i))
  · exact State.finishClaim_ru.trans (ru.trans (State.closing_ru s i))

/-- A CLOSE of an occupant behind which none waits leaves its channel vacant (R26, R28). -/
theorem close_of_last (law : s.IntegrityLaw)
    (live : s.lifeAt i = .live) (listed : s.listAt n = s.handleAt i :: rest)
    (behind : ∀ g ∈ rest, s.lifeAt (slotOf g) = .quarantined .waiting)
    (alone : ∀ m, m ≠ n → s.handleAt i ∉ s.listAt m) (elsewhere : ∀ m, m ≠ n → s.occupant m ≠ some i) :
    (s.closing i).leaveList s i = ((s.closing i).setList n rest, none)
      ∧ ((s.closing i).setList n rest).viewOf n = .vacant ∧ s.viewOf n ≠ .vacant
      ∧ ∀ m, m ≠ n → ((s.closing i).setList n rest).viewOf m = s.viewOf m := by
  have notFirst (g : Handle) (found : g ∈ rest) : i ≠ slotOf g := fun same => by
    have held := behind g found
    rw [← same, live] at held
    exact absurd held nofun
  have untouched (g : Handle) (found : g ∈ rest) : (s.closing i).slotAt (slotOf g) = s.slotAt (slotOf g) := by
    rw [State.closing_slotAt, if_neg (notFirst g found)]
  have held (g : Handle) (found : g ∈ rest) : (s.closing i).lifeAt (slotOf g) = .quarantined .waiting := by
    rw [State.lifeAt, untouched g found]
    exact behind g found
  refine ⟨?_, ?_, ?_, fun m other => ?_⟩
  · refine State.leaveList_of_last (State.closing_lists s i) listed alone (by rw [live]; rfl) (fun g found => ?_)
      fun g found => by rw [held g found]; nofun
    rw [State.intactAt, untouched g found]
    exact law _
  · refine State.viewOf_of_unoccupied fun hd tl list => ?_
    rw [State.setList_listAt, if_pos rfl] at list
    have life : ((s.closing i).setList n rest).lifeAt (slotOf hd) = .quarantined .waiting :=
      (congrArg SlotState.life (State.setList_slotAt ..)).trans (held hd (by rw [list]; exact List.mem_cons_self))
    rw [life]
    rfl
  · rw [State.viewOf_of_first listed live]
    nofun
  · have list : ((s.closing i).setList n rest).listAt m = s.listAt m := by
      rw [State.setList_listAt, if_neg other.symm, State.listAt_congr (State.closing_lists s i)]
    refine State.viewOf_eq_of_head list fun hd tl list => ?_
    have notFirst : slotOf hd ≠ i := fun same =>
      elsewhere m other (State.occupant_eq_some_iff.mpr ⟨hd, tl, list, same, by rw [live]; rfl⟩)
    rw [State.setList_slotAt, State.closing_slotAt, if_neg (Ne.symm notFirst)]
    exact .refl _

/-- A CLOSE of a waiting account changes no view (R25, R28). -/
theorem close_of_waiting {first : Handle} (waiting : s.lifeAt i = .waiting) (listed : s.listAt n = first :: rest)
    (behind : first ≠ s.handleAt i) (within : s.handleAt i ∈ rest) (alone : ∀ m, m ≠ n → s.handleAt i ∉ s.listAt m) :
    (s.closing i).leaveList s i = ((s.closing i).setList n (first :: rest.erase (s.handleAt i)), none)
      ∧ ∀ m, ((s.closing i).setList n (first :: rest.erase (s.handleAt i))).viewOf m = s.viewOf m := by
  have place : (s.listAt n).erase (s.handleAt i) = first :: rest.erase (s.handleAt i) := by
    rw [listed, List.erase_cons_tail (by simpa using behind)]
  have noOccupant : s.occupant n ≠ some i := fun occupant => by
    have occupied := State.occupies_of_occupant occupant
    rw [waiting] at occupied
    exact absurd occupied nofun
  have alike (k : Slot) : (((s.closing i).setList n (first :: rest.erase (s.handleAt i))).slotAt k).Alike (s.slotAt k) := by
    rw [State.setList_slotAt, State.closing_slotAt]
    split
    case isTrue same =>
      refine SlotState.Alike.of_life ?_ ?_
      · rw [(s.closedRecord_spec i).1]
        rfl
      · rw [← same, ← State.lifeAt, waiting]
        rfl
    case isFalse => exact .refl _
  refine ⟨?_, fun m => ?_⟩
  · rw [State.leaveList_of_listed (State.closing_lists s i) (by rw [listed]; exact List.mem_cons_of_mem _ within) alone
      noOccupant, place]
  · by_cases same : n = m
    · subst same
      exact State.viewOf_eq_of_first listed (by rw [State.setList_listAt, if_pos rfl]) (alike _)
    · refine State.viewOf_eq_of_head ?_ fun hd _ _ => alike _
      rw [State.setList_listAt, if_neg same, State.listAt_congr (State.closing_lists s i)]

end Close

/-- Settles O26: the closed record is written first, then the account leaves its list as the lemmas of the three ways
say; the notices follow from the views before and after. -/
theorem closeSettlesTheAccount : Obligations.CloseSettlesTheAccount := by
  unfold Obligations.CloseSettlesTheAccount
  refine ⟨fun s q expected n i j rest hq ht resolved law live waiting current listed alone elsewhere firsts =>
    close_of_successor hq ht resolved law live waiting current listed alone elsewhere firsts,
    fun s q expected n i first rest hq ht resolved law current alone => ⟨fun live listed behind elsewhere => ?_,
      fun waiting listed notFirst within => ?_⟩,
    fun s q h expected i hq ht resolved => ⟨?_, fun intact settled => ?_, fun intact isOpen v given differs => ?_⟩⟩
  · obtain ⟨left, vacant, occupied, others⟩ := close_of_last law live listed behind alone elsewhere
    have settled := close_settled hq left rfl rfl rfl
    have runs := exec_close_of_left hq ht resolved (law i) (.inl live) current left
    have work : s.StoreWork ((s.closing i).setList n rest) :=
      (State.closing_storeWork s i).trans (State.StoreWork.setList _ n rest)
    have lists : ((s.closing i).setList n rest).store.lists = s.store.lists.set n rest := by
      rw [State.setList_lists, State.closing_lists]
    generalize (s.closing i).setList n rest = after at *
    exact ⟨_, runs, settled, (congrArg Store.lists (State.finishClaim_store s _)).trans lists,
      State.StoreWork.notices_of_changed (t := ⟨after, .ok, _⟩) work vacant occupied.symm,
      fun m other => State.StoreWork.scAt_of_same (t := ⟨after, .ok, _⟩) work (others m other)⟩
  · obtain ⟨left, views⟩ := close_of_waiting waiting listed notFirst within alone
    have settled := close_settled hq left rfl rfl rfl
    have runs := exec_close_of_left hq ht resolved (law i) (.inr waiting) current left
    have work : s.StoreWork ((s.closing i).setList n (first :: rest.erase (s.handleAt i))) :=
      (State.closing_storeWork s i).trans (State.StoreWork.setList _ n _)
    have lists : ((s.closing i).setList n (first :: rest.erase (s.handleAt i))).store.lists
        = s.store.lists.set n (first :: rest.erase (s.handleAt i)) := by
      rw [State.setList_lists, State.closing_lists]
    generalize (s.closing i).setList n (first :: rest.erase (s.handleAt i)) = after at *
    exact ⟨_, runs, settled, (congrArg Store.lists (State.finishClaim_store s _)).trans lists,
      State.StoreWork.finishClaim_sc (t := ⟨after, .ok, _⟩) work views⟩
  · exact refusesUnfit_of_named rfl hq ht resolved fun u o found => by simp [State.close, found]
  · refine exec_of_answer rfl hq ht ?_
    simp [State.close, State.named_of_account resolved intact (.inr (.inr settled)), settled, Taken.refused]
  · refine exec_of_answer rfl hq ht ?_
    simp [State.close, State.named_of_open resolved intact isOpen, unsettled_of_open isOpen,
      staleVersion_of_ne given differs, Taken.stale]

end Sys2Proof.Machine
end

section
/-! Proofs about DISCARD (R38). -/

set_option Elab.async false

namespace Sys2Proof.Machine

section Discard

variable {s u left : State} {q : Request} {n : Channel} {i j : Slot} {rest : List Handle}

/-! ## Freeing the slot -/

theorem State.freeSlotAt_lists (s : State) (i : Slot) : (s.freeSlotAt i).store.lists = s.store.lists := rfl

theorem State.freeSlotAt_au (s : State) (i : Slot) :
    (s.freeSlotAt i).au = { s.au with inbox := s.au.inbox ++ [.removed i] } := rfl

theorem State.freeSlotAt_ru (s : State) (i : Slot) :
    (s.freeSlotAt i).ru = { s.ru with inbox := s.ru.inbox ++ [(.store, .account i)] } := rfl

/-- The end of a DISCARD. -/
def Taken.discarded (left : State) (i : Slot) : Taken := { state := left.freeSlotAt i, outcome := .ok, payload := [] }

/-- What every DISCARD that is taken leaves in the slot and in the blocks that it does not touch (R5, R38). -/
theorem freed_of_left (hq : s.Serves q (.discard (s.handleAt i))) (work : s.StoreWork left)
    (counter : (left.slotAt i).counter = (s.slotAt i).counter) :
    let t := s.finishClaim (.discarded left i)
    t.lifeAt i = .free ∧ (t.slotAt i).generation = 0#11 ∧ (t.slotAt i).counter = (s.slotAt i).counter
      ∧ t.bodyAt i = Body.absent ∧ t.intactAt i = true ∧ t.resolve (s.handleAt i) = none
      ∧ t.store.openSerial = s.store.openSerial
      ∧ t.cq = s.cq ∧ t.le = s.le ∧ t.tu = s.tu ∧ t.hl = s.hl ∧ t.Answered q .ok [] := by
  intro t
  have slot : t.slotAt i = freeForm i (s.slotAt i).counter := by
    rw [State.finishClaim_slotAt, Taken.discarded, State.freeSlotAt_slotAt, if_pos rfl, counter]
  obtain ⟨life, generation, kept, body⟩ := freeForm_spec i (s.slotAt i).counter
  have work := work.trans (State.StoreWork.freeSlotAt left i)
  obtain ⟨openSerial, quantizers, levy, tariffs, link⟩ :=
    State.StoreWork.finishClaim_kept (t := .discarded left i) work
  refine ⟨?_, ?_, ?_, ?_, ?_, ?_, openSerial, quantizers, levy, tariffs, link,
    State.StoreWork.answered (t := .discarded left i) work hq⟩
  · rw [State.lifeAt, slot, life]
  · rw [slot, generation]
  · rw [slot, kept]
  · rw [State.bodyAt, slot, body]
  · rw [State.intactAt, slot, freeForm_intact]
  · refine State.resolve_of_free ?_
    rw [State.slotOf_handleAt, State.lifeAt, slot, life]

/-- What the freeing of the slot adds to what the leaving of its list has left. -/
theorem discarded_effect :
    let t := s.finishClaim (.discarded left i)
    (∀ k, k ≠ i → t.slotAt k = left.slotAt k) ∧ t.store.lists = left.store.lists
      ∧ t.au = { left.au with inbox := left.au.inbox ++ [.removed i] }
      ∧ t.ru = { left.ru with inbox := left.ru.inbox ++ [(.store, .account i)] } := by
  refine ⟨fun k other => ?_, ?_, ?_, ?_⟩
  · rw [State.finishClaim_slotAt, Taken.discarded, State.freeSlotAt_slotAt, if_neg (Ne.symm other)]
  · rw [State.finishClaim_store, Taken.discarded, State.freeSlotAt_lists]
  · rw [State.finishClaim_au, Taken.discarded, State.freeSlotAt_au]
  · rw [State.finishClaim_ru, Taken.discarded, State.freeSlotAt_ru]

/-- A freed slot and one that occupied no channel look alike to a view (R25, R28). -/
theorem State.freeSlotAt_alike (unoccupied : occupies (s.lifeAt i) = false) (slots : ∀ k, k ≠ i → left.slotAt k = s.slotAt k)
    (k : Slot) : ((left.freeSlotAt i).slotAt k).Alike (s.slotAt k) := by
  rw [State.freeSlotAt_slotAt]
  split
  case isTrue same =>
    subst same
    refine SlotState.Alike.of_life ?_ unoccupied
    rw [(freeForm_spec i _).1]
    rfl
  case isFalse other =>
    rw [slots k (Ne.symm other)]
    exact .refl _

/-! ## The account as DISCARD finds it -/

/-- The state with the bar of an account's item lifted (R38, R127). -/
def State.unbarred (s : State) (i : Slot) : State := s.setRu (s.ru.liftBar i)

theorem State.unbarred_storeWork (s : State) (i : Slot) : s.StoreWork (s.unbarred i) := .setRu s _

theorem State.unbarred_ru (s : State) (i : Slot) :
    (s.unbarred i).ru = { s.ru with barred := s.ru.barred.set i false } := rfl

/-- A DISCARD of a quarantined account whose record passes, with the state that leaving its list ends in. -/
theorem exec_discard_of_left {held : Held} {promoted : Option Slot} (hq : s.Serves q (.discard (s.handleAt i)))
    (ht : s.storeTakes = true) (resolved : s.resolve (s.handleAt i) = some i) (life : s.lifeAt i = .quarantined held)
    (intact : s.intactAt i = true) (found : (s.unbarred i).leaveList s i = (left, promoted)) :
    exec .discard s = .next (s.finishClaim (.discarded left i)) := by
  have taken : s.discard (s.handleAt i) = .discarded left i := by
    rw [State.unbarred] at found
    simp only [State.discard, resolved, life, s.check_of_intact i intact, State.discardAt, isQuarantined, if_true, found,
      Taken.discarded]
  rw [exec_of_wholeClaim rfl hq ht, taken]

/-- A LOST account, whether its word matches or not, as DISCARD acts on it after its check (R15). -/
theorem State.exists_discard_of_lost (resolved : s.resolve (s.handleAt i) = some i) (lost : s.lifeAt i = .lost)
    (unlisted : ∀ m, s.handleAt i ∉ s.listAt m) :
    ∃ left, s.discard (s.handleAt i) = .discarded left i ∧ s.StoreWork left
      ∧ (left.slotAt i).counter = (s.slotAt i).counter ∧ (∀ k, k ≠ i → left.slotAt k = s.slotAt k)
      ∧ left.store.lists = s.store.lists ∧ left.au = s.au ∧ left.ru = s.ru := by
  have taken (v : State) (life : v.lifeAt i = .lost) (handle : v.handleAt i = s.handleAt i)
      (lists : v.store.lists = s.store.lists) : v.discardAt i = .discarded v i := by
    have alone : v.channelOf (v.handleAt i) = none :=
      State.channelOf_of_unlisted fun m => by rw [handle, State.listAt_congr lists]; exact unlisted m
    simp only [State.discardAt, life, isQuarantined, Bool.false_eq_true, if_false, State.leaveList_of_unlisted v alone,
      Taken.discarded]
  have begins : s.discard (s.handleAt i) = (s.check i).discardAt i := by simp only [State.discard, resolved, lost]
  rw [begins]
  cases word : s.intactAt i with
  | true =>
    rw [s.check_of_intact i word]
    exact ⟨s, taken s lost rfl rfl, ⟨rfl, rfl, rfl, rfl, rfl, rfl, rfl⟩, rfl, fun _ _ => rfl, rfl, rfl, rfl⟩
  | false =>
    rw [State.check_of_lost lost word]
    have slot (k : Slot) := s.setSlot_slotAt i k (lostForm i (s.slotAt i).generation (s.slotAt i).counter)
    have own := (slot i).trans (if_pos rfl)
    refine ⟨_, taken _ ?_ ?_ rfl, ⟨rfl, rfl, rfl, rfl, rfl, rfl, rfl⟩, ?_,
      fun k other => (slot k).trans (if_neg (Ne.symm other)), rfl, rfl, rfl⟩
    · rw [State.lifeAt, own, lostForm, SlotState.sealed_life]
    · rw [State.handleAt, own, lostForm, SlotState.sealed_generation, State.handleAt]
    · rw [own, lostForm, SlotState.sealed_counter]

/-! ## The three places of a quarantined account -/

/-- A quarantined occupant that stands alone leaves its channel vacant (R26, R38). -/
theorem discard_of_last (hq : s.Serves q (.discard (s.handleAt i))) (ht : s.storeTakes = true)
    (resolved : s.resolve (s.handleAt i) = some i) (life : s.lifeAt i = .quarantined .live) (intact : s.intactAt i = true)
    (listed : s.listAt n = [s.handleAt i]) (alone : ∀ m, m ≠ n → s.handleAt i ∉ s.listAt m)
    (firsts : ∀ m hd tl, m ≠ n → s.listAt m = hd :: tl → slotOf hd ≠ i) :
    ∃ left, exec .discard s = .next (s.finishClaim (.discarded left i)) ∧ s.StoreWork left
      ∧ (∀ k, left.slotAt k = s.slotAt k) ∧ left.store.lists = s.store.lists.set n [] ∧ left.au = s.au
      ∧ left.ru = { s.ru with barred := s.ru.barred.set i false }
      ∧ (left.freeSlotAt i).viewOf n = .vacant ∧ s.viewOf n ≠ .vacant
      ∧ ∀ m, m ≠ n → (left.freeSlotAt i).viewOf m = s.viewOf m := by
  have occupied : occupies (s.lifeAt i) = true := by rw [life]; rfl
  have found := State.leaveList_of_last (s := s) (u := s.unbarred i) rfl listed alone occupied (by simp) (by simp)
  refine ⟨_, exec_discard_of_left hq ht resolved life intact found,
    (s.unbarred_storeWork i).trans (State.StoreWork.setList _ n []), fun k => State.setList_slotAt .., rfl, rfl,
    State.unbarred_ru s i, ?_, ?_, fun m other => ?_⟩
  · refine State.viewOf_of_unoccupied fun hd tl list => ?_
    have empty : (((s.unbarred i).setList n []).freeSlotAt i).listAt n = [] := (State.setList_listAt ..).trans (if_pos rfl)
    exact absurd (empty.symm.trans list) nofun
  · have occupant := State.occupant_eq_some_iff.mpr ⟨_, _, listed, s.slotOf_handleAt i, occupied⟩
    rw [State.viewOf_of_not_live occupant (by rw [life]; nofun)]
    nofun
  · refine State.viewOf_eq_of_head ((State.setList_listAt ..).trans (if_neg other.symm)) fun hd tl list => ?_
    rw [State.freeSlotAt_slotAt, if_neg (firsts m hd tl other list).symm, State.setList_slotAt]
    exact .refl _

/-- A quarantined occupant with a waiting successor leaves it the first place (R26, R38). -/
theorem discard_of_successor (hq : s.Serves q (.discard (s.handleAt i))) (ht : s.storeTakes = true)
    (resolved : s.resolve (s.handleAt i) = some i) (law : s.IntegrityLaw) (life : s.lifeAt i = .quarantined .live)
    (waiting : s.lifeAt j = .waiting) (listed : s.listAt n = s.handleAt i :: s.handleAt j :: rest)
    (alone : ∀ m, m ≠ n → s.handleAt i ∉ s.listAt m)
    (firsts : ∀ m hd tl, m ≠ n → s.listAt m = hd :: tl → slotOf hd ≠ i ∧ slotOf hd ≠ j) :
    ∃ left, exec .discard s = .next (s.finishClaim (.discarded left i)) ∧ s.StoreWork left ∧ i ≠ j
      ∧ (s.unbarred i).Promotes left n j (s.occupantRecord j) (s.handleAt j :: rest)
      ∧ (left.freeSlotAt i).viewOf n
        = .live (s.handleAt j) (creditOfCode ((s.bodyAt j).evaluated false).credit)
            (emergencyOfCode (s.bodyAt j).emergency)
      ∧ s.viewOf n = .quarantined ∧ ∀ m, m ≠ n → (left.freeSlotAt i).viewOf m = s.viewOf m := by
  have apart : i ≠ j := fun same => by
    rw [same, waiting] at life
    exact absurd life nofun
  have occupied : occupies (s.lifeAt i) = true := by rw [life]; rfl
  obtain ⟨left, found, promotes⟩ :=
    State.exists_leaveList_of_successor (s := s) (u := s.unbarred i) rfl listed alone occupied rfl (law j) waiting
  have work : s.StoreWork left := by
    simpa only [found] using (s.unbarred_storeWork i).trans (State.StoreWork.leaveList (s.unbarred i) s i)
  have lists : (left.freeSlotAt i).store.lists = s.store.lists.set n (s.handleAt j :: rest) := promotes.lists
  refine ⟨left, exec_discard_of_left hq ht resolved life (law i) found, work, apart, promotes, ?_, ?_, fun m other => ?_⟩
  · refine State.viewOf_of_promoted ?_ ((State.listAt_of_set lists n).trans (if_pos rfl))
    rw [State.freeSlotAt_slotAt, if_neg apart, promotes.slots, if_pos rfl]
  · have occupant := State.occupant_eq_some_iff.mpr ⟨_, _, listed, s.slotOf_handleAt i, occupied⟩
    exact State.viewOf_of_not_live occupant (by rw [life]; nofun)
  · refine State.viewOf_eq_of_head ((State.listAt_of_set lists m).trans (if_neg other.symm)) fun hd tl list => ?_
    obtain ⟨notFirst, notSecond⟩ := firsts m hd tl other list
    rw [State.freeSlotAt_slotAt, if_neg notFirst.symm, promotes.slots, if_neg notSecond.symm]
    exact .refl _

/-- A quarantined account that occupies no channel leaves any list that holds it (R26, R38). -/
theorem discard_of_no_occupant {held : Held} (hq : s.Serves q (.discard (s.handleAt i))) (ht : s.storeTakes = true)
    (resolved : s.resolve (s.handleAt i) = some i) (life : s.lifeAt i = .quarantined held) (unfit : held ≠ .live)
    (intact : s.intactAt i = true) (once : ∀ m m', s.handleAt i ∈ s.listAt m → s.handleAt i ∈ s.listAt m' → m = m')
    (behind : ∀ m tl, s.listAt m ≠ s.handleAt i :: tl) :
    ∃ left, exec .discard s = .next (s.finishClaim (.discarded left i)) ∧ s.StoreWork left
      ∧ (∀ k, left.slotAt k = s.slotAt k) ∧ (∀ m, left.listAt m = (s.listAt m).erase (s.handleAt i)) ∧ left.au = s.au
      ∧ left.ru = { s.ru with barred := s.ru.barred.set i false }
      ∧ ∀ m, (left.freeSlotAt i).viewOf m = s.viewOf m := by
  have unoccupied : occupies (s.lifeAt i) = false := by
    rw [life]
    cases held with
    | live => exact absurd rfl unfit
    | waiting => rfl
    | settled => rfl
  have free (m : Channel) : s.occupant m ≠ some i := fun occupant =>
    Bool.false_ne_true (unoccupied.symm.trans (State.occupies_of_occupant occupant))
  obtain ⟨left, found, lists, slots, au, ru⟩ :=
    State.exists_leaveList_of_no_occupant (s := s) (u := s.unbarred i) rfl once free
  have work : s.StoreWork left := by
    simpa only [found] using (s.unbarred_storeWork i).trans (State.StoreWork.leaveList (s.unbarred i) s i)
  have slots (k : Slot) : left.slotAt k = s.slotAt k := slots k
  have alike := State.freeSlotAt_alike unoccupied fun k _ => slots k
  refine ⟨left, exec_discard_of_left hq ht resolved life intact found, work, slots, lists, au, ru, fun m => ?_⟩
  have lists : (left.freeSlotAt i).listAt m = (s.listAt m).erase (s.handleAt i) := lists m
  cases list : s.listAt m with
  | nil => exact State.viewOf_eq_of_head (lists.trans (by rw [list]; rfl)) fun hd _ _ => alike _
  | cons hd tl =>
    have other : hd ≠ s.handleAt i := fun same => behind m tl (same ▸ list)
    rw [list, List.erase_cons_tail (by simpa using other)] at lists
    exact State.viewOf_eq_of_first list lists (alike _)

end Discard

/-- Settles O30: the account leaves its list as the lemmas of the three places say, and then its slot is freed. -/
theorem discardFreesTheSlot : Obligations.DiscardFreesTheSlot := by
  unfold Obligations.DiscardFreesTheSlot
  refine ⟨fun s q h i n hq ht resolved life intact listed alone firsts => ?_, fun s q h i => ?_⟩
  · obtain rfl := State.handleAt_of_resolve resolved
    obtain ⟨left, runs, work, slots, lists, au, ru, vacant, occupied, others⟩ :=
      discard_of_last hq ht resolved life intact listed alone firsts
    obtain ⟨free, generation, counter, body, word, gone, -, kept⟩ :=
      freed_of_left hq work (congrArg SlotState.counter (slots i))
    obtain ⟨otherSlots, ownLists, ownAu, ownRu⟩ := discarded_effect (s := s) (left := left) (i := i)
    have work := work.trans (State.StoreWork.freeSlotAt left i)
    refine ⟨_, runs, free, generation, counter, body, word, gone, fun k other => (otherSlots k other).trans (slots k),
      ownLists.trans lists, by rw [ownAu, au], by rw [ownRu, ru],
      State.StoreWork.notices_of_changed (t := .discarded left i) work vacant occupied.symm,
      fun m other => State.StoreWork.scAt_of_same (t := .discarded left i) work (others m other), kept⟩
  · intro freed hq ht resolved
    obtain rfl := State.handleAt_of_resolve resolved
    refine ⟨fun n j rest => ?_,
      fun held life unfit intact once behind => ?_, fun lost unlisted => ?_,
      fun account => ⟨fun intact => ?_, fun broken => ?_⟩⟩
    · intro promoted law life waiting listed alone firsts
      obtain ⟨left, runs, work, apart, promotes, shown, before, others⟩ :=
        discard_of_successor hq ht resolved law life waiting listed alone firsts
      obtain ⟨live, -, body, word⟩ := s.occupantRecord_spec j
      have isFreed := freed_of_left hq work (by rw [promotes.slots, if_neg (Ne.symm apart)]; rfl)
      obtain ⟨otherSlots, ownLists, ownAu, ownRu⟩ := discarded_effect (s := s) (left := left) (i := i)
      have second : (s.finishClaim (.discarded left i)).slotAt j = s.occupantRecord j := by
        rw [otherSlots j (Ne.symm apart), promotes.slots, if_pos rfl]
      have work := work.trans (State.StoreWork.freeSlotAt left i)
      refine ⟨_, runs, isFreed, ?_, ?_, ?_, fun k notFirst notSecond => ?_, ownLists.trans promotes.lists, ?_, ?_,
        State.StoreWork.notices_of_changed (t := .discarded left i) work shown (by rw [before]; nofun),
        fun m other => State.StoreWork.scAt_of_same (t := .discarded left i) work (others m other)⟩
      · rw [State.lifeAt, second, live]
      · rw [State.bodyAt, second, body]
      · rw [State.intactAt, second, word]
      · rw [otherSlots k notFirst, promotes.slots, if_neg (Ne.symm notSecond)]
        rfl
      · rw [ownAu, promotes.attention, body]
        simp only [List.append_assoc]
        rfl
      · rw [ownRu, promotes.retention, State.unbarred_ru]
        simp only [List.append_assoc]
        rfl
    · obtain ⟨left, runs, work, slots, lists, au, ru, views⟩ :=
        discard_of_no_occupant hq ht resolved life unfit intact once behind
      have isFreed := freed_of_left hq work (congrArg SlotState.counter (slots i))
      obtain ⟨otherSlots, ownLists, ownAu, ownRu⟩ := discarded_effect (s := s) (left := left) (i := i)
      exact ⟨_, runs, isFreed, fun k other => (otherSlots k other).trans (slots k),
        fun m => (State.listAt_congr ownLists m).trans (lists m), by rw [ownAu, au], by rw [ownRu, ru],
        State.StoreWork.finishClaim_sc (t := .discarded left i) (work.trans (State.StoreWork.freeSlotAt left i)) views⟩
    · obtain ⟨left, taken, work, counter, slots, lists, au, ru⟩ := State.exists_discard_of_lost resolved lost unlisted
      have isFreed := freed_of_left hq work counter
      obtain ⟨otherSlots, ownLists, ownAu, ownRu⟩ := discarded_effect (s := s) (left := left) (i := i)
      have alike := State.freeSlotAt_alike (by rw [lost]; rfl) slots
      have views (m : Channel) : (left.freeSlotAt i).viewOf m = s.viewOf m :=
        State.viewOf_eq_of_head (State.listAt_congr lists m) fun hd _ _ => alike _
      refine ⟨s.finishClaim (.discarded left i), ?_, isFreed, fun k other => (otherSlots k other).trans (slots k other),
        ownLists.trans lists, by rw [ownAu, au], by rw [ownRu, ru],
        State.StoreWork.finishClaim_sc (t := .discarded left i) (work.trans (State.StoreWork.freeSlotAt left i)) views⟩
      rw [exec_of_wholeClaim rfl hq ht, taken]
    · refine exec_of_answer rfl hq ht ?_
      rcases account with life | life | life <;> simp [State.discard, resolved, life, intact, Taken.refused]
    · obtain ⟨held, life⟩ := (isAccountLife_iff_heldLife _).mp account
      obtain ⟨quarantined, body, -, others, -, -, answered⟩ := refused_of_mismatch hq life broken .integrity
      refine ⟨_, held, ?_, quarantined, body, others, answered⟩
      have taken : s.discard (s.handleAt i) = .refused (s.check i) .integrity := by
        rcases account with life | life | life <;> simp [State.discard, resolved, life, broken]
      rw [exec_of_wholeClaim rfl hq ht, taken]

end Sys2Proof.Machine
end

section
/-! Proofs about the checks of REWRITE and the record that it writes (R35, R36). -/

set_option Elab.async false

namespace Sys2Proof.Machine

section Checks

variable {s : State} {q : Request} {a : RewriteArgs} {i : Slot}

/-! ## The checks of R35 in the terms of the statements -/

theorem State.otherOccupant_iff (s : State) (n : Channel) (i : Slot) :
    s.otherOccupant n i = true ↔ ∃ j, s.occupant n = some j ∧ j ≠ i := by
  unfold State.otherOccupant
  cases s.occupant n with
  | none => simp
  | some j => simp

theorem State.repeated_iff (s : State) (r : Reference) (i : Slot) :
    (slots.filter (· != i)).any (s.carries r) = true
      ↔ ¬ ∀ j, j ≠ i → s.lifeAt j ≠ .free → s.lifeAt j ≠ .lost → (s.bodyAt j).reference ≠ r := by
  simp [State.carries_eq_true_iff, slots]

theorem Body.reconcilable_iff (b : Body) :
    b.reconcilable = true
      ↔ (-2000000000 ≤ b.balance.toInt ∧ b.balance.toInt ≤ 2000000000)
        ∧ -100000000 ≤ b.computedOpening ∧ b.computedOpening ≤ 100000000 := by
  simp only [Body.reconcilable, Bool.and_eq_true, decide_eq_true_iff, and_assoc]
  exact Iff.rfl

theorem isQuarantined_iff (l : Life) : isQuarantined l = true ↔ ∃ held, l = .quarantined held := by
  cases l <;> simp [isQuarantined]

/-- The life states of an account that REWRITE acts on (R35). -/
def isRewritable (l : Life) : Prop := isAccountLife l ∨ ∃ held, l = .quarantined held

/-- A rewritable record that passes its check comes to checks 4 to 9 (R35). -/
theorem State.rewrite_of_intact (resolved : s.resolve a.handle = some i) (intact : s.intactAt i = true)
    (rewritable : isRewritable (s.lifeAt i)) : s.rewrite a = s.rewriteChecked i a := by
  rcases rewritable with (life | life | life) | ⟨held, life⟩ <;>
    simp [State.rewrite, resolved, life, intact, s.check_of_intact i intact]

/-- Over intact records the comparison leaves the state as it is, and checks 6 to 9 follow one another (R35). -/
theorem State.rewriteChecked_of_placed (law : s.IntegrityLaw)
    (current : a.expected = none ∨ a.expected = some (s.bodyAt i).version)
    (place : (∃ held, s.lifeAt i = .quarantined held)
      ∨ (s.lifeAt i = a.target.life ∧ (s.bodyAt i).channel = count8 a.channel.val)) :
    s.rewriteChecked i a
      = if (slots.filter (· != i)).any (s.carries a.reference) then .refused s .duplicateReference
        else if a.target = .live ∧ s.otherOccupant a.channel i then .refused s .wrongState
        else if a.target ≠ .settled ∧ s.handleAt i ∉ s.listAt a.channel ∧ channelCapacity ≤ (s.listAt a.channel).length then
          .refused s .channelFull
        else if !(s.bodyAt i).reconcilable then .refused s .limitExceeded
        else s.rewriteAt i a := by
  have fresh := (staleVersion_eq_false_iff _ _).mpr current
  have unchecked : s.checkCompared (slots.filter (· != i)) = s := s.checkCompared_eq_of_intact _ fun j _ => law j
  have fits : ¬((!isQuarantined (s.lifeAt i)) = true ∧ (a.target.life ≠ s.lifeAt i ∨ (s.bodyAt i).channel ≠ count8 a.channel.val)) := by
    rintro ⟨free, differs⟩
    rcases place with held | ⟨life, channel⟩
    · rw [(isQuarantined_iff _).mpr held] at free
      exact absurd free nofun
    · exact differs.elim (fun other => other life.symm) fun other => other channel
  unfold State.rewriteChecked
  dsimp only
  rw [fresh, if_neg Bool.false_ne_true, if_neg fits, unchecked]

theorem RewritePasses.rewritable (passes : RewritePasses s q a i) : isRewritable (s.lifeAt i) := by
  rcases passes.place with held | ⟨life, -⟩
  · exact .inr held
  · left
    rw [life]
    cases a.target
    exacts [.inl rfl, .inr (.inl rfl), .inr (.inr rfl)]

theorem RewritePasses.handle (passes : RewritePasses s q a i) : s.handleAt i = a.handle :=
  State.handleAt_of_resolve passes.resolved

theorem RewritePasses.reconcilable (passes : RewritePasses s q a i) : (s.bodyAt i).reconcilable = true :=
  (Body.reconcilable_iff _).mpr ⟨passes.balance, passes.opening⟩

/-- A REWRITE that passes the nine checks writes the record (R35). -/
theorem RewritePasses.rewrite (passes : RewritePasses s q a i) : s.rewrite a = s.rewriteAt i a := by
  rw [State.rewrite_of_intact passes.resolved (passes.intact i) passes.rewritable,
    State.rewriteChecked_of_placed passes.intact passes.current passes.place, if_neg, if_neg, if_neg, if_neg]
  · simp [passes.reconcilable]
  · rintro ⟨bound, unlisted, full⟩
    rw [passes.handle] at unlisted
    exact (passes.room bound).elim unlisted (Nat.not_lt.mpr full)
  · rintro ⟨live, other⟩
    obtain ⟨j, occupant, apart⟩ := (s.otherOccupant_iff _ i).mp other
    exact apart (passes.vacant live j occupant)
  · rw [s.repeated_iff]
    exact not_not.mpr passes.unique

theorem exec_rewrite_of_passes (passes : RewritePasses s q a i) :
    exec .rewrite s = .next (s.finishClaim (s.rewriteAt i a)) := by
  rw [exec_of_wholeClaim rfl passes.served passes.takes, passes.rewrite]

end Checks

/-! ## The record -/

section Record

variable {s : State} {a : RewriteArgs} {i : Slot}

/-- The vouchers without zeros and later repetitions (R36). -/
theorem cleanVouchers_eq (seen vs : List (BitVec 32)) :
    cleanVouchers seen vs = ((vs.filter (· != 0#32)).filter fun v => !seen.contains v).eraseDups := by
  induction vs generalizing seen with
  | nil => rfl
  | cons v vs ih =>
    unfold cleanVouchers
    by_cases zero : v = 0#32
    · simp [zero, ih]
    by_cases repeated : v ∈ seen
    · simp [zero, repeated, ih]
    · have kept : (((v :: vs).filter (· != 0#32)).filter fun v => !seen.contains v)
          = v :: (vs.filter (· != 0#32)).filter fun v => !seen.contains v := by simp [zero, repeated]
      rw [if_neg (by simp [zero, repeated]), ih, kept, List.eraseDups_cons, List.filter_filter (l := vs.filter _)]
      congr 2
      refine List.filter_congr fun w _ => ?_
      by_cases same : w = v <;> simp [same]

theorem cleanVouchers_nil (vs : List (BitVec 32)) : cleanVouchers [] vs = (vs.filter (· != 0#32)).eraseDups := by
  rw [cleanVouchers_eq]
  simp

/-- The emergency status that a REWRITE leaves, in the terms of the statement (R36). -/
def keptEmergency (b : Body) (allowance : BitVec 32) (result : Life) : Byte :=
  if allowance = 0#32 then emergencyCode .none
  else if emergencyOfCode b.emergency = none ∨ b.emergency = emergencyCode .none then emergencyCode .available
  else if b.emergency = emergencyCode .inUse ∧ result ≠ .live then emergencyCode .available
  else b.emergency

theorem rewrittenEmergency_eq (b : Body) (allowance : BitVec 32) (result : Life) :
    rewrittenEmergency b allowance result = keptEmergency b allowance result := by
  unfold rewrittenEmergency keptEmergency
  split
  · rfl
  · cases code : emergencyOfCode b.emergency with
    | none => simp
    | some e =>
      have held := (emergencyOfCode_eq_some_iff _ _).mp code
      rw [held]
      cases e <;> by_cases live : result = .live <;> simp [live, emergencyCode]

/-- The body that a REWRITE leaves (R36). -/
def State.rewrittenAt (s : State) (a : RewriteArgs) (i : Slot) : Body :=
  let plain := rewrittenBody (s.bodyAt i) a (s.lifeAt i) (s.rewrittenLife a i)
  if s.rewrittenLife a i = .live then plain.evaluated false else plain

/-- The fields of that body, but for emergency status and credit state, are those of the record before its evaluation. -/
theorem State.rewrittenAt_eq (s : State) (a : RewriteArgs) (i : Slot) :
    s.rewrittenAt a i
      = { rewrittenBody (s.bodyAt i) a (s.lifeAt i) (s.rewrittenLife a i) with
          emergency := (s.rewrittenAt a i).emergency, credit := (s.rewrittenAt a i).credit } := by
  unfold State.rewrittenAt
  dsimp only
  split <;> rfl

/-- The record that a REWRITE writes, with its word (R36). -/
def State.rewrittenRecord (s : State) (a : RewriteArgs) (i : Slot) : SlotState :=
  SlotState.sealed { s.slotAt i with life := s.rewrittenLife a i, body := s.rewrittenAt a i } i

theorem State.rewrittenRecord_spec (s : State) (a : RewriteArgs) (i : Slot) :
    (s.rewrittenRecord a i).life = s.rewrittenLife a i ∧ (s.rewrittenRecord a i).generation = (s.slotAt i).generation
      ∧ (s.rewrittenRecord a i).counter = (s.slotAt i).counter ∧ (s.rewrittenRecord a i).body = s.rewrittenAt a i
      ∧ (s.rewrittenRecord a i).intact i = true := by
  rw [State.rewrittenRecord, SlotState.sealed_life, SlotState.sealed_generation, SlotState.sealed_counter,
    SlotState.sealed_body]
  exact ⟨rfl, rfl, rfl, rfl, SlotState.sealed_intact _ i⟩

/-- The credit state from which a REWRITE finds whether the account has entered another (R36). -/
def State.creditBefore (s : State) (i : Slot) : Byte :=
  if s.lifeAt i = .live ∨ s.lifeAt i = .quarantined .live then (s.bodyAt i).credit else 0#8

/-- The state with the record written and its item dirtied, before the account is placed (R36). -/
def State.rewriting (s : State) (a : RewriteArgs) (i : Slot) : State :=
  { s.setSlot i (s.rewrittenRecord a i) with
    au := { s.au with
      inbox := s.au.inbox
        ++ if s.rewrittenLife a i = .live then entryMessages i (s.creditBefore i) (s.rewrittenAt a i).credit else [] }
    ru := { s.ru with
      barred := if isQuarantined (s.lifeAt i) then s.ru.barred.set i false else s.ru.barred
      inbox := s.ru.inbox ++ [(.store, .account i)] } }

theorem hasCredit_iff (l : Life) : hasCredit l = true ↔ l = .live ∨ l = .quarantined .live := by
  cases l with
  | quarantined held => cases held <;> simp [hasCredit, occupies]
  | free | waiting | live | settled | lost => simp [hasCredit, occupies]

theorem State.rewriting_eq (s : State) (a : RewriteArgs) (i : Slot) :
    let freed := if isQuarantined (s.lifeAt i) then s.setRu (s.ru.liftBar i) else s
    let written := freed.putRecord i { s.slotAt i with life := s.rewrittenLife a i, body := s.rewrittenAt a i }
    s.rewriting a i
      = (if s.rewrittenLife a i = .live then written.raiseEntered i (s.creditBefore i) (s.rewrittenAt a i).credit
          else written).dirtyAccount i := by
  dsimp only
  unfold State.rewriting
  by_cases live : s.rewrittenLife a i = .live <;> by_cases held : isQuarantined (s.lifeAt i) = true
  · simp only [if_pos live, if_pos held, State.raiseEntered_eq]
    rfl
  · simp only [if_pos live, if_neg held, State.raiseEntered_eq]
    rfl
  · simp only [if_neg live, if_pos held, List.append_nil]
    rfl
  · simp only [if_neg live, if_neg held, List.append_nil]
    rfl

theorem State.rewriteAt_eq (s : State) (a : RewriteArgs) (i : Slot) :
    s.rewriteAt i a
      = { state :=
            if isQuarantined (s.lifeAt i) then (s.rewriting a i).replaceInLists s i a.channel else s.rewriting a i
          outcome := .ok
          payload := [lifeCode (s.rewrittenLife a i)] ++ le16 (s.rewrittenAt a i).version
            ++ le32 (s.rewrittenAt a i).opening ++ [(s.rewrittenAt a i).credit] } := by
  have before : (if hasCredit (s.lifeAt i) = true then (s.bodyAt i).credit else 0#8) = s.creditBefore i := by
    rw [State.creditBefore]
    exact if_congr (hasCredit_iff _) rfl rfl
  have written := s.rewriting_eq a i
  dsimp only [State.rewrittenAt] at written
  rw [written]
  unfold State.rewriteAt
  dsimp only
  rw [before]
  rfl

theorem State.rewriting_slotAt (s : State) (a : RewriteArgs) (i k : Slot) :
    (s.rewriting a i).slotAt k = if i = k then s.rewrittenRecord a i else s.slotAt k := s.setSlot_slotAt i k _

theorem State.rewriting_storeWork (s : State) (a : RewriteArgs) (i : Slot) : s.StoreWork (s.rewriting a i) :=
  ⟨rfl, rfl, rfl, rfl, rfl, rfl, rfl⟩

end Record

/-! ## The placing of the account -/

section Placing

variable {s u v : State} {a : RewriteArgs} {i : Slot} {n : Channel}

/-- Between `u` and `v` nothing has changed but the lists. -/
structure State.OnlyLists (u v : State) : Prop where
  slots : ∀ k, v.slotAt k = u.slotAt k
  attention : v.au = u.au
  retention : v.ru = u.ru

/-- Between `u` and `v` neither slot i nor the barred set has changed, and no dirtying is lost. -/
structure State.LeavesAlone (u v : State) (i : Slot) : Prop where
  slot : v.slotAt i = u.slotAt i
  barred : v.ru.barred = u.ru.barred
  inbox : ∀ x ∈ u.ru.inbox, x ∈ v.ru.inbox

theorem State.OnlyLists.setList (only : u.OnlyLists v) (n : Channel) (l : List Handle) : u.OnlyLists (v.setList n l) :=
  ⟨fun k => (State.setList_slotAt ..).trans (only.slots k), only.attention, only.retention⟩

theorem State.OnlyLists.refl (u : State) : u.OnlyLists u := ⟨fun _ => rfl, rfl, rfl⟩

theorem State.LeavesAlone.setList (alone : u.LeavesAlone v i) (n : Channel) (l : List Handle) :
    u.LeavesAlone (v.setList n l) i :=
  ⟨(State.setList_slotAt ..).trans alone.slot, alone.barred, alone.inbox⟩

theorem State.OnlyLists.leavesAlone (only : u.OnlyLists v) (i : Slot) : u.LeavesAlone v i :=
  ⟨only.slots i, congrArg Retention.barred only.retention, fun _ found => only.retention.symm ▸ found⟩

/-- An account that occupies no channel leaves a list alone (R26). -/
theorem State.leaveList_onlyLists (free : ∀ n, s.channelOf (s.handleAt i) = some n → s.occupant n ≠ some i) :
    u.OnlyLists (u.leaveList s i).1 := by
  cases found : s.channelOf (s.handleAt i) with
  | none =>
    rw [State.leaveList_of_unlisted s found]
    exact .refl u
  | some n =>
    rw [State.leaveList_of_behind s found (free n found)]
    exact (State.OnlyLists.refl u).setList n _

/-- A promotion that follows is of another account (R24, R26). -/
theorem State.leaveList_leavesAlone (law : u.IntegrityLaw) (lists : u.store.lists = s.store.lists)
    (once : s.ListedOnce i) : u.LeavesAlone (u.leaveList s i).1 i := by
  by_cases free : ∀ n, s.channelOf (s.handleAt i) = some n → s.occupant n ≠ some i
  · exact (State.leaveList_onlyLists free).leavesAlone i
  · push Not at free
    obtain ⟨n, found, occupant⟩ := free
    have kept : u.LeavesAlone (u.setList n ((u.listAt n).erase (s.handleAt i))) i :=
      ((State.OnlyLists.refl u).setList n _).leavesAlone i
    rw [State.leaveList_of_occupant s found occupant, State.promote, State.setList_listAt, if_pos rfl]
    have intact (g : Handle) : (u.setList n ((u.listAt n).erase (s.handleAt i))).intactAt (slotOf g) = true := by
      rw [State.intactAt, State.setList_slotAt]
      exact law _
    rcases State.promoteFrom_cases _ n ((u.listAt n).erase (s.handleAt i)) fun g _ => intact g with
      ⟨-, same⟩ | ⟨before, g, after, split, -, -, promotes⟩
    · rw [same]
      exact kept
    · rw [promotes]
      have remains : g ∈ (s.listAt n).erase (s.handleAt i) := by
        rw [← State.listAt_congr lists, split]
        simp
      have other : slotOf g ≠ i := fun same => by
        obtain ⟨handle, nodup, -⟩ := once n g (List.mem_of_mem_erase remains) same
        rw [handle] at remains
        exact nodup.not_mem_erase remains
      have kept := kept.setList n (g :: ((u.setList n ((u.listAt n).erase (s.handleAt i))).listAt n).erase g)
      refine ⟨?_, ?_, fun x found => ?_⟩
      · rw [State.makeOccupant_slotAt, if_neg other]
        exact kept.slot
      · rw [State.makeOccupant_ru]
        exact kept.barred
      · rw [State.makeOccupant_ru]
        exact List.mem_append_left _ (kept.inbox x found)

theorem State.replaceInLists_of_settled (settled : u.lifeAt i = .settled) :
    u.replaceInLists s i n = (u.leaveList s i).1 := by
  simp only [State.replaceInLists, settled]

/-- An account placed on the channel that lists it already (R37). -/
theorem State.replaceInLists_of_own (unsettled : u.lifeAt i ≠ .settled) (own : s.channelOf (s.handleAt i) = some n) :
    u.replaceInLists s i n
      = let left := u.setList n ((u.listAt n).erase (s.handleAt i))
        left.setList n (left.placed i (left.listAt n)) := by
  unfold State.replaceInLists
  dsimp only
  split
  · contradiction
  all_goals rw [if_pos own]

theorem State.replaceInLists_of_other (unsettled : u.lifeAt i ≠ .settled) (other : s.channelOf (s.handleAt i) ≠ some n) :
    u.replaceInLists s i n
      = (u.leaveList s i).1.setList n ((u.leaveList s i).1.placed i ((u.leaveList s i).1.listAt n)) := by
  unfold State.replaceInLists
  dsimp only
  split
  · contradiction
  all_goals rw [if_neg other]

/-- The three ways of placing an account that leaves quarantine (R37). -/
theorem State.replaceInLists_cases (u s : State) (i : Slot) (n : Channel) :
    (u.lifeAt i = .settled ∧ u.replaceInLists s i n = (u.leaveList s i).1)
      ∨ ∃ left l, (left = u.setList n ((u.listAt n).erase (s.handleAt i))
          ∨ (s.channelOf (s.handleAt i) ≠ some n ∧ left = (u.leaveList s i).1))
        ∧ u.lifeAt i ≠ .settled ∧ u.replaceInLists s i n = left.setList n l := by
  by_cases settled : u.lifeAt i = .settled
  · exact .inl ⟨settled, State.replaceInLists_of_settled settled⟩
  by_cases own : s.channelOf (s.handleAt i) = some n
  · exact .inr ⟨_, _, .inl rfl, settled, State.replaceInLists_of_own settled own⟩
  · exact .inr ⟨_, _, .inr ⟨own, rfl⟩, settled, State.replaceInLists_of_other settled own⟩

theorem State.StoreWork.replaceInLists (u s : State) (i : Slot) (n : Channel) :
    u.StoreWork (u.replaceInLists s i n) := by
  rcases u.replaceInLists_cases s i n with ⟨-, eq⟩ | ⟨left, l, rfl | ⟨-, rfl⟩, -, eq⟩
  · rw [eq]
    exact .leaveList u s i
  · rw [eq]
    exact (State.StoreWork.setList u n _).trans (.setList _ n l)
  · rw [eq]
    exact (State.StoreWork.leaveList u s i).trans (.setList _ n l)

theorem State.replaceInLists_leavesAlone (law : u.IntegrityLaw) (lists : u.store.lists = s.store.lists)
    (once : s.ListedOnce i) : u.LeavesAlone (u.replaceInLists s i n) i := by
  have leaves := State.leaveList_leavesAlone law lists once
  rcases u.replaceInLists_cases s i n with ⟨-, eq⟩ | ⟨left, l, rfl | ⟨-, rfl⟩, -, eq⟩
  · rw [eq]
    exact leaves
  · rw [eq]
    exact (((State.OnlyLists.refl u).setList n _).setList n l).leavesAlone i
  · rw [eq]
    exact leaves.setList n l

/-- An account that occupies no channel, or no other than the one where it stays unsettled, is placed without a
promotion (R37). -/
theorem State.replaceInLists_onlyLists (stays : ∀ m, s.occupant m = some i → m = n ∧ u.lifeAt i ≠ .settled) :
    u.OnlyLists (u.replaceInLists s i n) := by
  rcases u.replaceInLists_cases s i n with ⟨settled, eq⟩ | ⟨left, l, rfl | ⟨other, rfl⟩, -, eq⟩
  · rw [eq]
    exact State.leaveList_onlyLists fun m _ occupant => (stays m occupant).2 settled
  · rw [eq]
    exact ((State.OnlyLists.refl u).setList n _).setList n l
  · rw [eq]
    refine (State.leaveList_onlyLists fun m listed occupant => ?_).setList n l
    rw [(stays m occupant).1] at listed
    exact other listed

end Placing

end Sys2Proof.Machine
end

section
/-! Proofs about what a REWRITE leaves, and its refusals (R35 to R37). -/

set_option Elab.async false

namespace Sys2Proof.Machine

section Effect

variable {s : State} {q : Request} {a : RewriteArgs} {i : Slot}

/-! ## The resulting life state and record -/

theorem State.rewrittenLife_of_settled (target : a.target = .settled) : s.rewrittenLife a i = .settled := by
  simp only [State.rewrittenLife, target]

theorem State.rewrittenLife_of_behind (target : a.target = .waiting) (other : ∃ j, s.occupant a.channel = some j ∧ j ≠ i) :
    s.rewrittenLife a i = .waiting := by
  simp only [State.rewrittenLife, target, (s.otherOccupant_iff _ i).mpr other, if_true]

theorem State.rewrittenLife_of_first
    (first : a.target = .live ∨ (a.target = .waiting ∧ ¬∃ j, s.occupant a.channel = some j ∧ j ≠ i)) :
    s.rewrittenLife a i = .live := by
  rcases first with target | ⟨target, alone⟩
  · simp only [State.rewrittenLife, target]
  · rw [← s.otherOccupant_iff] at alone
    simp only [State.rewrittenLife, target, if_neg alone]

theorem State.rewrittenLife_eq_settled_iff : s.rewrittenLife a i = .settled ↔ a.target = .settled := by
  unfold State.rewrittenLife
  cases a.target with
  | settled => simp
  | live => simp
  | waiting => by_cases other : s.otherOccupant a.channel i = true <;> simp [other]

theorem Body.shown_closing_of_settled {b : Body} {l : Life} (settled : l = .settled ∨ l = .quarantined .settled) :
    (b.shown l).closing = b.closing := by rcases settled with rfl | rfl <;> rfl

theorem Body.shown_closing_of_unsettled {b : Body} {l : Life} (life : isRewritable l)
    (unsettled : l ≠ .settled ∧ l ≠ .quarantined .settled) : (b.shown l).closing = none := by
  obtain ⟨notSettled, notHeld⟩ := unsettled
  rcases life with (rfl | rfl | rfl) | ⟨held, rfl⟩
  · rfl
  · rfl
  · exact absurd rfl notSettled
  · cases held with
    | waiting => rfl
    | live => rfl
    | settled => exact absurd rfl notHeld

/-- The state that a REWRITE which passes its checks ends in. -/
def State.rewrote (s : State) (a : RewriteArgs) (i : Slot) : State :=
  if isQuarantined (s.lifeAt i) then (s.rewriting a i).replaceInLists s i a.channel else s.rewriting a i

theorem State.rewriteAt_rewrote (s : State) (a : RewriteArgs) (i : Slot) :
    s.rewriteAt i a
      = { state := s.rewrote a i, outcome := .ok
          payload := [lifeCode (s.rewrittenLife a i)] ++ le16 (s.rewrittenAt a i).version
            ++ le32 (s.rewrittenAt a i).opening ++ [(s.rewrittenAt a i).credit] } := s.rewriteAt_eq a i

theorem State.rewriting_integrityLaw (law : s.IntegrityLaw) : (s.rewriting a i).IntegrityLaw := fun k => by
  rw [State.intactAt, State.rewriting_slotAt]
  split
  case isTrue same =>
    rw [← same]
    exact (s.rewrittenRecord_spec a i).2.2.2.2
  case isFalse => exact law k

theorem State.rewrote_storeWork (s : State) (a : RewriteArgs) (i : Slot) : s.StoreWork (s.rewrote a i) := by
  unfold State.rewrote
  split
  · exact (s.rewriting_storeWork a i).trans (State.StoreWork.replaceInLists _ s i a.channel)
  · exact s.rewriting_storeWork a i

theorem State.rewrote_leavesAlone (law : s.IntegrityLaw) (once : s.ListedOnce i) :
    (s.rewriting a i).LeavesAlone (s.rewrote a i) i := by
  unfold State.rewrote
  split
  · exact State.replaceInLists_leavesAlone (State.rewriting_integrityLaw law) rfl once
  · exact (State.OnlyLists.refl _).leavesAlone i

theorem State.rewriting_lifeAt (s : State) (a : RewriteArgs) (i : Slot) :
    (s.rewriting a i).lifeAt i = s.rewrittenLife a i := by
  rw [State.lifeAt, State.rewriting_slotAt, if_pos rfl, (s.rewrittenRecord_spec a i).1]

theorem State.rewrote_onlyLists (stays : ∀ m, s.occupant m = some i → m = a.channel ∧ a.target ≠ .settled) :
    (s.rewriting a i).OnlyLists (s.rewrote a i) := by
  unfold State.rewrote
  split
  · refine State.replaceInLists_onlyLists fun m occupant => ?_
    rw [State.rewriting_lifeAt, ne_eq, State.rewrittenLife_eq_settled_iff]
    exact stays m occupant
  · exact .refl _

/-- The slot of the account after a REWRITE that is taken. -/
theorem State.rewrote_slotAt (law : s.IntegrityLaw) (once : s.ListedOnce i) :
    (s.rewrote a i).slotAt i = s.rewrittenRecord a i := by
  rw [(State.rewrote_leavesAlone law once).slot, State.rewriting_slotAt, if_pos rfl]

/-! ## The body -/

/-- The fields that REWRITE sets and those that it keeps (R36). -/
theorem RewritePasses.fields (passes : RewritePasses s q a i) :
    let b := s.bodyAt i
    let c := s.rewrittenAt a i
    c.channel = count8 a.channel.val ∧ c.reference = a.reference ∧ c.tariff = a.tariff ∧ c.threshold = a.threshold
      ∧ c.allowance = a.allowance ∧ c.opening.toInt = b.balance.toInt - b.credited.toNat + b.debited.toNat
      ∧ c.Conserved ∧ c.saturated = false
      ∧ c.balance = b.balance ∧ c.credited = b.credited ∧ c.debited = b.debited ∧ c.quanta = b.quanta
      ∧ c.serial = b.serial ∧ c.lastLevy = b.lastLevy ∧ c.version = b.version + 1#16
      ∧ c.vouchers = (b.vouchers.filter (· != 0#32)).eraseDups
      ∧ (a.target = .settled → s.lifeAt i = .settled ∨ s.lifeAt i = .quarantined .settled → c.closing = b.closing)
      ∧ (a.target ≠ .settled ∨ (s.lifeAt i ≠ .settled ∧ s.lifeAt i ≠ .quarantined .settled) → c.closing = none) := by
  intro b c
  have fields : c = { rewrittenBody b a (s.lifeAt i) (s.rewrittenLife a i) with
    emergency := c.emergency, credit := c.credit } := s.rewrittenAt_eq a i
  obtain ⟨low, high⟩ := passes.opening
  have opening : (BitVec.ofInt 32 b.computedOpening).toInt = b.computedOpening :=
    toInt_ofInt_of_balance (low.trans' (by decide)) (high.trans (by decide))
  obtain ⟨conserved, -, -⟩ := rewrittenBody_sound a (s.lifeAt i) (s.rewrittenLife a i) passes.reconcilable
  refine ⟨by rw [fields]; rfl, by rw [fields]; rfl, by rw [fields]; rfl, by rw [fields]; rfl, by rw [fields]; rfl,
    by rw [fields]; exact opening, by rw [fields]; exact conserved,
    by rw [fields]; exact (by decide : (0#8).getLsbD 0 = false), by rw [fields]; rfl,
    by rw [fields]; rfl, by rw [fields]; rfl, by rw [fields]; rfl, by rw [fields]; rfl, by rw [fields]; rfl,
    by rw [fields]; rfl, by rw [fields]; exact cleanVouchers_nil _, fun target settled => ?_, fun unsettled => ?_⟩
  · rw [fields]
    exact (if_pos (State.rewrittenLife_of_settled target)).trans (Body.shown_closing_of_settled settled)
  · rw [fields]
    change (if s.rewrittenLife a i = .settled then (b.shown (s.lifeAt i)).closing else none) = none
    rcases unsettled with target | life
    · rw [if_neg (State.rewrittenLife_eq_settled_iff.not.mpr target)]
    · rw [Body.shown_closing_of_unsettled passes.rewritable life, ite_self]

/-- The emergency status and the credit state that a REWRITE leaves (R36). -/
theorem State.rewrittenAt_emergency (s : State) (a : RewriteArgs) (i : Slot) :
    let c := s.rewrittenAt a i
    let kept := keptEmergency (s.bodyAt i) a.allowance (s.rewrittenLife a i)
    (s.rewrittenLife a i = .live → c = { c with emergency := kept }.evaluated false)
      ∧ (s.rewrittenLife a i ≠ .live → c.emergency = kept ∧ c.credit = 0#8) := by
  intro c kept
  have plain : (rewrittenBody (s.bodyAt i) a (s.lifeAt i) (s.rewrittenLife a i)).emergency = kept :=
    rewrittenEmergency_eq _ _ _
  refine ⟨fun live => ?_, fun other => ?_⟩
  · have found : c = (rewrittenBody (s.bodyAt i) a (s.lifeAt i) (s.rewrittenLife a i)).evaluated false := if_pos live
    rw [found, ← plain]
    rfl
  · have found : c = rewrittenBody (s.bodyAt i) a (s.lifeAt i) (s.rewrittenLife a i) := if_neg other
    rw [found, plain]
    exact ⟨rfl, rfl⟩

/-! ## The refusals -/

theorem State.rewriteChecked_of_stale {u : State} {v : BitVec 16} (given : a.expected = some v)
    (differs : v ≠ (u.bodyAt i).version) :
    u.rewriteChecked i a = { state := u, outcome := .staleVersion, payload := le16 (u.bodyAt i).version } := by
  unfold State.rewriteChecked
  dsimp only
  rw [if_pos (staleVersion_of_ne given differs), Taken.stale]

/-- A quarantined record that fails its check is renewed before the version is compared (R15, R35). -/
theorem exec_rewrite_of_stale_mismatch {held : Held} (hq : s.Serves q (.rewrite a)) (ht : s.storeTakes = true)
    (resolved : s.resolve a.handle = some i) (life : s.lifeAt i = .quarantined held) (broken : s.intactAt i = false)
    {v : BitVec 16} (given : a.expected = some v) (differs : v ≠ (s.bodyAt i).version) :
    ∃ t, exec .rewrite s = .next t ∧ t.lifeAt i = s.lifeAt i ∧ t.bodyAt i = s.bodyAt i ∧ t.intactAt i = true
      ∧ (∀ j, j ≠ i → t.slotAt j = s.slotAt j) ∧ t.store.lists = s.store.lists ∧ t.ru = s.ru
      ∧ t.au = { s.au with inbox := s.au.inbox ++ [.raised .store (.slot i .quarantined)] }
      ∧ t.Answered q .staleVersion (le16 (s.bodyAt i).version) := by
  have renewed := State.check_of_quarantined life broken
  have slot (k : Slot) : (s.check i).slotAt k = if i = k then (s.slotAt i).sealed i else s.slotAt k := by
    rw [renewed, State.renewed_slotAt]
  have own := (slot i).trans (if_pos rfl)
  have body : (s.check i).bodyAt i = s.bodyAt i := by rw [State.bodyAt, own, SlotState.sealed_body, State.bodyAt]
  have taken : s.rewrite a = { state := s.check i, outcome := .staleVersion, payload := le16 (s.bodyAt i).version } := by
    have begins : s.rewrite a = (s.check i).rewriteChecked i a := by simp only [State.rewrite, resolved, life]
    rw [begins, State.rewriteChecked_of_stale given (by rwa [body]), body]
  have ownSlot : (s.finishClaim (s.rewrite a)).slotAt i = (s.slotAt i).sealed i := by
    rw [State.finishClaim_slotAt, taken, own]
  have answered := State.finishClaim_answered (t := s.rewrite a) hq (by rw [taken]; exact s.check_re i)
  refine ⟨_, exec_of_wholeClaim rfl hq ht, ?_, ?_, ?_, fun j other => ?_, ?_, ?_, ?_, ?_⟩
  · rw [State.lifeAt, ownSlot, SlotState.sealed_life, State.lifeAt]
  · rw [State.bodyAt, ownSlot, SlotState.sealed_body, State.bodyAt]
  · rw [State.intactAt, ownSlot, SlotState.sealed_intact]
  · rw [State.finishClaim_slotAt, taken, s.check_other i j other]
  · rw [State.finishClaim_store, taken, State.check_store_lists]
  · rw [State.finishClaim_ru, taken, renewed]
    rfl
  · rw [State.finishClaim_au, taken, renewed]
    rfl
  · rw [taken] at answered ⊢
    exact answered

/-- Checks 4 and 5 of R35 refuse before any record is compared. -/
theorem State.rewriteChecked_of_unplaced (current : a.expected = none ∨ a.expected = some (s.bodyAt i).version)
    (unplaced : ¬((∃ held, s.lifeAt i = .quarantined held)
      ∨ (s.lifeAt i = a.target.life ∧ (s.bodyAt i).channel = count8 a.channel.val))) :
    s.rewriteChecked i a = .refused s .wrongState := by
  obtain ⟨free, differs⟩ := not_or.mp unplaced
  have fresh := (staleVersion_eq_false_iff _ _).mpr current
  have refuses : (!isQuarantined (s.lifeAt i)) = true
      ∧ (a.target.life ≠ s.lifeAt i ∨ (s.bodyAt i).channel ≠ count8 a.channel.val) := by
    refine ⟨by simpa [← isQuarantined_iff] using free, ?_⟩
    by_contra agrees
    obtain ⟨life, channel⟩ := not_or.mp agrees
    exact differs ⟨(not_not.mp life).symm, not_not.mp channel⟩
  unfold State.rewriteChecked
  dsimp only
  rw [fresh, if_neg Bool.false_ne_true, if_pos refuses]

end Effect

/-- Settles O28: a REWRITE that passes is the writing of the record and the placing, which leaves the account's slot, the
barred set and the dirtyings alone; a refused one stops at the check that fails. -/
theorem rewriteWritesTheRecord : Obligations.RewriteWritesTheRecord := by
  unfold Obligations.RewriteWritesTheRecord
  intro s q a i b opening quarantined account other
  refine ⟨fun passes once => ?_, fun hq ht resolved => ?_⟩
  · have runs := exec_rewrite_of_passes passes
    rw [State.rewriteAt_rewrote] at runs
    have work := s.rewrote_storeWork a i
    have leaves := State.rewrote_leavesAlone (a := a) passes.intact once
    obtain ⟨life, generation, counter, body, word⟩ := s.rewrittenRecord_spec a i
    generalize ends : Taken.mk (s.rewrote a i) .ok ([lifeCode (s.rewrittenLife a i)] ++ le16 (s.rewrittenAt a i).version
      ++ le32 (s.rewrittenAt a i).opening ++ [(s.rewrittenAt a i).credit]) = taken at runs
    have state : taken.state = s.rewrote a i := congrArg Taken.state ends.symm
    have outcome : taken.outcome = .ok := congrArg Taken.outcome ends.symm
    have payload : taken.payload = [lifeCode (s.rewrittenLife a i)] ++ le16 (s.rewrittenAt a i).version
        ++ le32 (s.rewrittenAt a i).opening ++ [(s.rewrittenAt a i).credit] := congrArg Taken.payload ends.symm
    clear ends
    have slot : (s.finishClaim taken).slotAt i = s.rewrittenRecord a i := by
      rw [State.finishClaim_slotAt, state, State.rewrote_slotAt passes.intact once]
    have ownLife : (s.finishClaim taken).lifeAt i = s.rewrittenLife a i := by rw [State.lifeAt, slot, life]
    have ownBody : (s.finishClaim taken).bodyAt i = s.rewrittenAt a i := by rw [State.bodyAt, slot, body]
    have ownRu : (s.finishClaim taken).ru = (s.rewrote a i).ru := by rw [State.finishClaim_ru, state]
    rw [← state] at work
    obtain ⟨openSerial, quantizers, levy, tariffs, link⟩ := work.finishClaim_kept
    obtain ⟨channel, reference, tariff, threshold, allowance, opens, conserved, saturated, balance, credited, debited,
      quanta, serial, lastLevy, version, vouchers, closing, unclosed⟩ := passes.fields
    refine ⟨s.finishClaim taken, runs, ?_⟩
    rw [ownLife, ownBody]
    refine ⟨State.rewrittenLife_of_settled, State.rewrittenLife_of_behind, State.rewrittenLife_of_first, channel, reference,
      tariff, threshold, allowance, opens, conserved, saturated, balance, credited, debited, quanta, serial, lastLevy,
      version, vouchers, closing, unclosed, s.rewrittenAt_emergency a i, ?_, ?_, ?_, openSerial, fun held => ?_,
      fun free => ?_, ?_, fun stays => ?_, fun n => ?_, quantizers, levy, tariffs, link, ?_⟩
    · rw [slot, generation]
    · rw [slot, counter]
    · rw [State.intactAt, slot, word]
    · rw [ownRu, leaves.barred]
      exact if_pos ((isQuarantined_iff _).mpr held)
    · have free := (isQuarantined_iff _).not.mpr free
      rw [ownRu, leaves.barred, State.finishClaim_store, state, State.rewrote, if_neg free]
      exact ⟨if_neg free, rfl⟩
    · rw [ownRu]
      exact leaves.inbox _ (List.mem_append_right _ (List.mem_singleton.mpr rfl))
    · have only := State.rewrote_onlyLists (a := a) stays
      refine ⟨fun j apart => ?_, ?_, ?_⟩
      · rw [State.finishClaim_slotAt, state, only.slots, State.rewriting_slotAt, if_neg (Ne.symm apart)]
      · rw [ownRu, only.retention]
        rfl
      · rw [State.finishClaim_au, state, only.attention]
        rfl
    · rw [viewOf_congr (State.finishClaim_store s taken)]
      exact work.finishClaim_scAt n
    · have answered := work.answered passes.served
      rw [outcome, payload, version] at answered
      exact answered
  · intro current place unique room
    have runs {o : OutcomeCode} {p : List Byte} (found : s.rewrite a = { state := s, outcome := o, payload := p }) :
        exec .rewrite s = .next (s.answering q o p) := exec_of_answer rfl hq ht found
    refine ⟨fun lost => runs ?_, fun isAccount broken => ?_, fun ⟨held, life⟩ broken v given differs =>
      exec_rewrite_of_stale_mismatch hq ht resolved life broken given differs,
      fun rewritable intact v given differs => runs ?_, fun isAccount intact fresh unplaced => runs ?_,
      fun law rewritable fresh placed => ?_⟩
    · simp only [State.rewrite, resolved, lost, Taken.refused]
    · obtain ⟨held, life⟩ := (isAccountLife_iff_heldLife _).mp isAccount
      have taken : s.rewrite a = .refused (s.check i) .integrity := by
        rcases isAccount with life | life | life <;> simp [State.rewrite, resolved, life, broken]
      obtain ⟨quarantined, body, word, others, lists, -, answered⟩ := refused_of_mismatch hq life broken .integrity
      refine ⟨_, held, ?_, quarantined, body, word, others, lists, answered⟩
      rw [exec_of_wholeClaim rfl hq ht, taken]
    · rw [State.rewrite_of_intact resolved intact rewritable, State.rewriteChecked_of_stale given differs]
    · rw [State.rewrite_of_intact resolved intact (.inl isAccount), State.rewriteChecked_of_unplaced fresh unplaced,
        Taken.refused]
    · have checks := (State.rewrite_of_intact resolved (law i) rewritable).trans
        (State.rewriteChecked_of_placed law fresh placed)
      have repeated := s.repeated_iff a.reference i
      have isOther := s.otherOccupant_iff a.channel i
      refine ⟨fun taken => runs ?_, fun alone live behind => runs ?_, fun alone first => ⟨fun full => runs ?_,
        fun fits beyond => runs ?_⟩⟩
      · rw [checks, if_pos (repeated.mpr taken), Taken.refused]
      · rw [checks, if_neg (repeated.not.mpr (not_not.mpr alone)), if_pos ⟨live, isOther.mpr behind⟩, Taken.refused]
      all_goals
        have free : ¬(a.target = .live ∧ s.otherOccupant a.channel i = true) := fun ⟨live, behind⟩ =>
          first live (isOther.mp behind)
        rw [checks, if_neg (repeated.not.mpr (not_not.mpr alone)), if_neg free]
      · obtain ⟨bound, rest⟩ := not_or.mp full
        obtain ⟨unlisted, crowded⟩ := not_or.mp rest
        rw [if_pos ⟨bound, by rwa [State.handleAt_of_resolve resolved], Nat.not_lt.mp crowded⟩, Taken.refused]
      · rw [if_neg, if_pos, Taken.refused]
        · have outside : ¬b.reconcilable = true := by
            rw [Body.reconcilable_iff]
            unfold Body.computedOpening
            omega
          rw [Bool.eq_false_iff.mpr outside]
          rfl
        · rintro ⟨bound, unlisted, crowded⟩
          rw [State.handleAt_of_resolve resolved] at unlisted
          exact fits.elim bound fun place => place.elim unlisted (Nat.not_lt.mpr crowded)

end Sys2Proof.Machine
end

section
/-! Proofs about where a REWRITE places a quarantined account (R24, R26, R37). -/

set_option Elab.async false

namespace Sys2Proof.Machine

section Placed

variable {s left : State} {q : Request} {a : RewriteArgs} {i j : Slot} {n : Channel} {rest : List Handle}

/-- The end of a REWRITE that passes, read off the state that the placing leaves. -/
theorem RewritePasses.exists_next (passes : RewritePasses s q a i) :
    ∃ t, exec .rewrite s = .next t ∧ t.store = (s.rewrote a i).store ∧ t.au = (s.rewrote a i).au
      ∧ t.ru = (s.rewrote a i).ru
      ∧ (∀ n, t.scAt n = { s.scAt n with
          notices := (s.scAt n).notices
            ++ (if (s.rewrote a i).viewOf n = s.viewOf n then [] else [(s.rewrote a i).viewOf n]) })
      ∧ t.Answered q .ok ([lifeCode (s.rewrittenLife a i)] ++ le16 ((s.bodyAt i).version + 1#16)
          ++ le32 (s.rewrittenAt a i).opening ++ [(s.rewrittenAt a i).credit]) := by
  have version : (s.rewrittenAt a i).version = (s.bodyAt i).version + 1#16 := by rw [s.rewrittenAt_eq a i]; rfl
  have runs := exec_rewrite_of_passes passes
  rw [State.rewriteAt_rewrote, version] at runs
  have work := s.rewrote_storeWork a i
  exact ⟨_, runs, State.finishClaim_store .., State.finishClaim_au, State.finishClaim_ru,
    State.StoreWork.finishClaim_scAt (t := ⟨_, .ok, _⟩) work, State.StoreWork.answered (t := ⟨_, .ok, _⟩) work passes.served⟩

/-- What a REWRITE and a promotion both keep of a record that the order of a list depends on (R24). -/
def State.KeepsSerials (s left : State) : Prop := ∀ k, (left.bodyAt k).serial = (s.bodyAt k).serial

theorem State.rewriting_serials (s : State) (a : RewriteArgs) (i : Slot) : s.KeepsSerials (s.rewriting a i) := fun k => by
  rw [State.bodyAt, State.rewriting_slotAt]
  split
  case isTrue same =>
    subst same
    rw [(s.rewrittenRecord_spec a i).2.2.2.1, s.rewrittenAt_eq a i]
    rfl
  case isFalse => rfl

theorem State.rewriting_handleAt (s : State) (a : RewriteArgs) (i : Slot) : (s.rewriting a i).handleAt i = s.handleAt i := by
  rw [State.handleAt, State.rewriting_slotAt, if_pos rfl, (s.rewrittenRecord_spec a i).2.1, State.handleAt]

/-- How an account joins the others of a channel (R24, R37). -/
def State.Joined (s : State) (a : RewriteArgs) (i : Slot) (others list : List Handle) : Prop :=
  (s.occupant a.channel = none → list = a.handle :: others)
    ∧ ∀ first rest j, s.occupant a.channel = some j → j ≠ i → others = first :: rest →
        ∃ before after, before ++ after = rest ∧ list = first :: before ++ a.handle :: after
          ∧ (∀ g ∈ before, (s.bodyAt (slotOf g)).serial ≤ (s.bodyAt i).serial)
          ∧ ∀ g tl, after = g :: tl → (s.bodyAt i).serial < (s.bodyAt (slotOf g)).serial

theorem State.placed_of_live (live : left.lifeAt i = .live) (others : List Handle) :
    left.placed i others = left.handleAt i :: others := by simp only [State.placed, live]

/-- The placing joins the account to the others, first or by open serial (R24, R37). -/
theorem RewritePasses.joined (passes : RewritePasses s q a i) (unsettled : a.target ≠ .settled)
    (life : left.lifeAt i = s.rewrittenLife a i) (handle : left.handleAt i = s.handleAt i) (serials : s.KeepsSerials left)
    (others : List Handle) : s.Joined a i others (left.placed i others) := by
  have handle : left.handleAt i = a.handle := handle.trans passes.handle
  refine ⟨fun vacant => ?_, fun first rest j occupant apart split => ?_⟩
  · have live : s.rewrittenLife a i = .live := by
      refine State.rewrittenLife_of_first ?_
      cases target : a.target with
      | settled => exact absurd target unsettled
      | live => exact .inl rfl
      | waiting => exact .inr ⟨rfl, fun ⟨j, occupant, _⟩ => by rw [vacant] at occupant; exact absurd occupant nofun⟩
    rw [State.placed_of_live (life.trans live), handle]
  · have waiting : s.rewrittenLife a i = .waiting := by
      refine State.rewrittenLife_of_behind ?_ ⟨j, occupant, apart⟩
      cases target : a.target with
      | settled => exact absurd target unsettled
      | live => exact absurd (passes.vacant target j occupant) apart
      | waiting => rfl
    obtain ⟨before, after, whole, placed, older, newer⟩ := left.insertBySerial_spec i rest
    refine ⟨before, after, whole, ?_, fun g found => ?_, fun g tl next => ?_⟩
    · simp only [State.placed, life, waiting, split, placed, handle, List.cons_append]
    · rw [← serials, ← serials]
      exact older g found
    · rw [← serials, ← serials]
      exact newer g tl next

/-! ## An account that occupies no channel -/

theorem State.ListedOnce.unique (once : s.ListedOnce i) (m m' : Channel) (here : s.handleAt i ∈ s.listAt m)
    (there : s.handleAt i ∈ s.listAt m') : m = m' :=
  ((once m _ here (s.slotOf_handleAt i)).2.2 m' there).symm

theorem State.ListedOnce.alone (once : s.ListedOnce i) (listed : s.handleAt i ∈ s.listAt n) (m : Channel) (other : m ≠ n) :
    s.handleAt i ∉ s.listAt m := fun here => other (once.unique m n here listed)

/-- A quarantined account that occupies no channel leaves its list, and joins the requested channel unless it is settled
(R37). -/
theorem RewritePasses.rewrote_of_no_occupant (passes : RewritePasses s q a i) {held : Held}
    (quarantined : s.lifeAt i = .quarantined held) (once : s.ListedOnce i) (free : ∀ m, s.occupant m ≠ some i) :
    (a.target = .settled → ∀ m, (s.rewrote a i).listAt m = (s.listAt m).erase a.handle)
      ∧ (a.target ≠ .settled →
          s.Joined a i ((s.listAt a.channel).erase a.handle) ((s.rewrote a i).listAt a.channel)
            ∧ ∀ m, m ≠ a.channel → (s.rewrote a i).listAt m = (s.listAt m).erase a.handle) := by
  have rewrote : s.rewrote a i = (s.rewriting a i).replaceInLists s i a.channel :=
    if_pos ((isQuarantined_iff _).mpr ⟨held, quarantined⟩)
  have life := s.rewriting_lifeAt a i
  obtain ⟨left, leaves, lists, slots, -, -⟩ :=
    State.exists_leaveList_of_no_occupant (s := s) (u := s.rewriting a i) rfl once.unique free
  rw [rewrote, ← passes.handle]
  refine ⟨fun target m => ?_, fun unsettled => ?_⟩
  · rw [State.replaceInLists_of_settled (life.trans (State.rewrittenLife_of_settled target)), leaves]
    exact lists m
  have unsettledLife : (s.rewriting a i).lifeAt i ≠ .settled := by
    rw [life]
    exact State.rewrittenLife_eq_settled_iff.not.mpr unsettled
  obtain ⟨left, placed, lists, slots⟩ : ∃ left : State, (s.rewriting a i).replaceInLists s i a.channel
        = left.setList a.channel (left.placed i (left.listAt a.channel))
      ∧ (∀ m, left.listAt m = (s.listAt m).erase (s.handleAt i)) ∧ ∀ k, left.slotAt k = (s.rewriting a i).slotAt k := by
    by_cases own : s.channelOf (s.handleAt i) = some a.channel
    · have listed := List.contains_iff_mem.mp
        (List.find?_some (p := fun n => (s.listAt n).contains (s.handleAt i)) own)
      refine ⟨_, State.replaceInLists_of_own unsettledLife own, fun m => ?_, fun k => State.setList_slotAt ..⟩
      rw [State.setList_listAt]
      split
      case isTrue same =>
        rw [same]
        rfl
      case isFalse other =>
        rw [List.erase_of_not_mem (once.alone listed m (Ne.symm other))]
        rfl
    · refine ⟨_, State.replaceInLists_of_other unsettledLife own, ?_, ?_⟩
      · rw [leaves]
        exact lists
      · rw [leaves]
        exact slots
  have ownLife : left.lifeAt i = s.rewrittenLife a i := by rw [State.lifeAt, slots, ← State.lifeAt, life]
  have handle : left.handleAt i = s.handleAt i := by
    rw [State.handleAt, slots, ← State.handleAt, State.rewriting_handleAt]
  have serials : s.KeepsSerials left := fun k => by
    rw [State.bodyAt, slots]
    exact s.rewriting_serials a i k
  rw [placed, State.setList_listAt, if_pos rfl, lists, passes.handle]
  refine ⟨passes.joined unsettled ownLife handle serials _, fun m other => ?_⟩
  rw [State.setList_listAt, if_neg (Ne.symm other), lists, passes.handle]

/-! ## A quarantined occupant that is LIVE again on its own channel -/

/-- A quarantined occupant rewritten to LIVE on its own channel stays in the first place (R16, R37). -/
theorem State.rewrote_of_own (quarantined : s.lifeAt i = .quarantined .live)
    (target : a.target = .live) (listed : s.listAt a.channel = s.handleAt i :: rest)
    (alone : ∀ m, m ≠ a.channel → s.handleAt i ∉ s.listAt m)
    (firsts : ∀ m hd tl, m ≠ a.channel → s.listAt m = hd :: tl → slotOf hd ≠ i) :
    (s.rewriting a i).OnlyLists (s.rewrote a i) ∧ (s.rewrote a i).store.lists = s.store.lists
      ∧ (s.rewrote a i).viewOf a.channel
        = .live (s.handleAt i) (creditOfCode (s.rewrittenAt a i).credit) (emergencyOfCode (s.rewrittenAt a i).emergency)
      ∧ s.viewOf a.channel = .quarantined ∧ ∀ m, m ≠ a.channel → (s.rewrote a i).viewOf m = s.viewOf m := by
  have occupied : occupies (s.lifeAt i) = true := by rw [quarantined]; rfl
  have only : (s.rewriting a i).OnlyLists (s.rewrote a i) := by
    refine State.rewrote_onlyLists fun m occupant => ⟨?_, by rw [target]; nofun⟩
    obtain ⟨hd, tl, list, slot, -⟩ := State.occupant_eq_some_iff.mp occupant
    by_contra other
    exact firsts m hd tl other list slot
  have live := State.rewrittenLife_of_first (s := s) (i := i) (a := a) (.inl target)
  have life := (s.rewriting_lifeAt a i).trans live
  have lists : (s.rewrote a i).store.lists = s.store.lists := by
    have own := State.channelOf_of_listed (by rw [listed]; exact List.mem_cons_self) alone
    have rewrote : s.rewrote a i = (s.rewriting a i).replaceInLists s i a.channel :=
      if_pos ((isQuarantined_iff _).mpr ⟨_, quarantined⟩)
    rw [rewrote, State.replaceInLists_of_own (by rw [life]; nofun) own]
    dsimp only
    have others : ((s.rewriting a i).setList a.channel (((s.rewriting a i).listAt a.channel).erase (s.handleAt i))).listAt
        a.channel = rest := by
      have same : (s.rewriting a i).listAt a.channel = s.handleAt i :: rest := listed
      rw [State.setList_listAt, if_pos rfl, same, List.erase_cons_head]
    have ownLife : ((s.rewriting a i).setList a.channel
        (((s.rewriting a i).listAt a.channel).erase (s.handleAt i))).lifeAt i = .live := by
      rw [State.lifeAt, State.setList_slotAt, ← State.lifeAt, life]
    have placed : State.placed ((s.rewriting a i).setList a.channel
        (((s.rewriting a i).listAt a.channel).erase (s.handleAt i))) i rest = s.listAt a.channel := by
      rw [State.placed_of_live ownLife, State.handleAt, State.setList_slotAt, ← State.handleAt, State.rewriting_handleAt,
        listed]
    rw [others, placed, State.setList_lists, State.setList_lists, Vector.set_set]
    exact Vector.set_getElem_self ..
  have slot : (s.rewrote a i).slotAt i = s.rewrittenRecord a i := by
    rw [only.slots, State.rewriting_slotAt, if_pos rfl]
  obtain ⟨ownLife, generation, -, body, -⟩ := s.rewrittenRecord_spec a i
  have handle : (s.rewrote a i).handleAt i = s.handleAt i := by rw [State.handleAt, slot, generation, State.handleAt]
  refine ⟨only, lists, ?_, ?_, fun m other => ?_⟩
  · have first : (s.rewrote a i).listAt a.channel = (s.rewrote a i).handleAt i :: rest := by
      rw [State.listAt_congr lists, handle, listed]
    rw [State.viewOf_of_first first (by rw [State.lifeAt, slot, ownLife, live]), handle, State.bodyAt, slot, body]
  · have occupant := State.occupant_eq_some_iff.mpr ⟨_, _, listed, s.slotOf_handleAt i, occupied⟩
    exact State.viewOf_of_not_live occupant (by rw [quarantined]; nofun)
  · refine State.viewOf_eq_of_head (State.listAt_congr lists m) fun hd tl list => ?_
    rw [only.slots, State.rewriting_slotAt, if_neg (firsts m hd tl other list).symm]
    exact .refl _

/-! ## A quarantined occupant that leaves its channel to its successor -/

/-- A quarantined occupant that is settled or moved leaves its channel to the waiting successor (R26, R37). -/
theorem RewritePasses.rewrote_of_successor (passes : RewritePasses s q a i)
    (quarantined : s.lifeAt i = .quarantined .live) (waiting : s.lifeAt j = .waiting) (once : s.ListedOnce i)
    (listed : s.listAt n = s.handleAt i :: s.handleAt j :: rest) (leaves : a.target = .settled ∨ a.channel ≠ n) :
    i ≠ j
      ∧ (∀ k, (s.rewrote a i).slotAt k = if j = k then s.occupantRecord j else (s.rewriting a i).slotAt k)
      ∧ (s.rewrote a i).listAt n = s.handleAt j :: rest
      ∧ (a.target ≠ .settled → s.Joined a i (s.listAt a.channel) ((s.rewrote a i).listAt a.channel))
      ∧ (∀ m, m ≠ n → a.target = .settled ∨ m ≠ a.channel → (s.rewrote a i).listAt m = s.listAt m)
      ∧ (s.rewrote a i).au = { (s.rewriting a i).au with
          inbox := (s.rewriting a i).au.inbox
            ++ (entryMessages j 0#8 (s.occupantRecord j).body.credit ++ [.raised .store (.slot j .promoted)]) }
      ∧ (s.rewrote a i).ru = { (s.rewriting a i).ru with
          inbox := (s.rewriting a i).ru.inbox ++ [(.store, .account j)] } := by
  have apart : i ≠ j := fun same => by
    rw [same, waiting] at quarantined
    exact absurd quarantined nofun
  have alone := once.alone (n := n) (by rw [listed]; exact List.mem_cons_self)
  have untouched : (s.rewriting a i).slotAt j = s.slotAt j := by rw [State.rewriting_slotAt, if_neg apart]
  have rewrote : s.rewrote a i = (s.rewriting a i).replaceInLists s i a.channel :=
    if_pos ((isQuarantined_iff _).mpr ⟨_, quarantined⟩)
  have life := s.rewriting_lifeAt a i
  obtain ⟨left, departs, promotes⟩ := State.exists_leaveList_of_successor (s := s) (u := s.rewriting a i) (i := i) rfl listed
    alone (by rw [quarantined]; rfl) untouched (passes.intact j) waiting
  have lists : left.store.lists = s.store.lists.set n (s.handleAt j :: rest) := promotes.lists
  have place (m : Channel) := State.listAt_of_set lists m
  refine ⟨apart, ?_⟩
  by_cases target : a.target = .settled
  · have ends : s.rewrote a i = left := by
      rw [rewrote, State.replaceInLists_of_settled (life.trans (State.rewrittenLife_of_settled target)), departs]
    rw [ends]
    exact ⟨promotes.slots, (place n).trans (if_pos rfl), fun unsettled => absurd target unsettled,
      fun m other _ => (place m).trans (if_neg (Ne.symm other)), promotes.attention, promotes.retention⟩
  · have moved : a.channel ≠ n := leaves.resolve_left target
    have elsewhere : s.channelOf (s.handleAt i) ≠ some a.channel := by
      rw [State.channelOf_of_listed (n := n) (by rw [listed]; exact List.mem_cons_self) alone]
      exact fun same => moved (Option.some.inj same).symm
    have others : left.listAt a.channel = s.listAt a.channel := (place _).trans (if_neg (Ne.symm moved))
    have ends : s.rewrote a i = left.setList a.channel (left.placed i (s.listAt a.channel)) := by
      rw [rewrote, State.replaceInLists_of_other (by rw [life]; exact State.rewrittenLife_eq_settled_iff.not.mpr target)
        elsewhere, departs, others]
    have slot : left.slotAt i = (s.rewriting a i).slotAt i := by rw [promotes.slots, if_neg (Ne.symm apart)]
    have ownLife : left.lifeAt i = s.rewrittenLife a i := by rw [State.lifeAt, slot, ← State.lifeAt, life]
    have handle : left.handleAt i = s.handleAt i := by
      rw [State.handleAt, slot, ← State.handleAt, State.rewriting_handleAt]
    have serials : s.KeepsSerials left := fun k => by
      rw [State.bodyAt, promotes.slots]
      split
      case isTrue same =>
        subst same
        rw [(s.occupantRecord_spec j).2.2.1]
      case isFalse => exact s.rewriting_serials a i k
    rw [ends]
    refine ⟨fun k => (State.setList_slotAt ..).trans (promotes.slots k), ?_, fun unsettled => ?_, fun m other free => ?_,
      promotes.attention, promotes.retention⟩
    · rw [State.setList_listAt, if_neg moved, place, if_pos rfl]
    · rw [State.setList_listAt, if_pos rfl]
      exact passes.joined unsettled ownLife handle serials _
    · rw [State.setList_listAt, if_neg (Ne.symm (free.resolve_left target)), place, if_neg (Ne.symm other)]

end Placed

/-- Settles O29: each way of leaving and joining a list, with what the end of the claim adds. -/
theorem rewritePlacesTheAccount : Obligations.RewritePlacesTheAccount := by
  unfold Obligations.RewritePlacesTheAccount
  intro s q a i b joined passes
  obtain ⟨t, runs, store, au, ru, controllers, answered⟩ := passes.exists_next
  obtain ⟨life, -, -, body, word⟩ := s.rewrittenRecord_spec a i
  have slots (k : Slot) : t.slotAt k = (s.rewrote a i).slotAt k := slotAt_congr store k
  have places (m : Channel) : t.listAt m = (s.rewrote a i).listAt m :=
    State.listAt_congr (congrArg Store.lists store) m
  have same (m : Channel) (view : (s.rewrote a i).viewOf m = s.viewOf m) : t.scAt m = s.scAt m := by
    rw [controllers, if_pos view, List.append_nil]
  have changed (m : Channel) {v : View} (shown : (s.rewrote a i).viewOf m = v) (before : s.viewOf m = .quarantined)
      (other : v ≠ .quarantined) : (t.scAt m).notices = (s.scAt m).notices ++ [v] := by
    rw [controllers, if_neg (by rw [shown, before]; exact other), shown]
  have heldLive (held : s.lifeAt i = .quarantined .live) : s.creditBefore i = b.credit := if_pos (.inr held)
  have barred (held : s.lifeAt i = .quarantined .live) :
      (s.rewriting a i).ru.barred = s.ru.barred.set i false := if_pos ((isQuarantined_iff _).mpr ⟨_, held⟩)
  refine ⟨fun rest held target listed alone firsts => ?_, fun held quarantined once free => ?_, fun n j rest => ?_⟩
  · rw [← passes.handle] at listed alone ⊢
    have result := State.rewrittenLife_of_first (s := s) (i := i) (a := a) (.inl target)
    obtain ⟨only, lists, shown, before, others⟩ := State.rewrote_of_own held target listed alone firsts
    obtain ⟨-, -, -, -, -, -, conserved, -, balance, -, -, -, -, -, version, -⟩ := passes.fields
    have own : t.slotAt i = s.rewrittenRecord a i := by rw [slots, only.slots, State.rewriting_slotAt, if_pos rfl]
    have ownBody : t.bodyAt i = s.rewrittenAt a i := by rw [State.bodyAt, own, body]
    refine ⟨t, runs, ?_, ?_, ?_, ?_, ?_, fun k apart => ?_, ?_, ?_, fun m other => same m (others m other), ?_, ?_, ?_, ?_, ?_⟩
    · rw [State.lifeAt, own, life, result]
    · rw [ownBody]
      exact conserved
    · rw [ownBody]
      exact balance
    · rw [ownBody]
      exact version
    · rw [State.intactAt, own, word]
    · rw [slots, only.slots, State.rewriting_slotAt, if_neg (Ne.symm apart)]
    · rw [store, lists]
    · rw [ownBody]
      exact changed _ shown before nofun
    · rw [au, only.attention, ownBody, ← heldLive held]
      simp only [State.rewriting, result, if_true]
    · rw [ru, only.retention]
      exact barred held
    · rw [ru, only.retention]
      rfl
    · rw [ru, only.retention]
      rfl
    · rw [ownBody]
      rw [result] at answered
      exact answered
  · obtain ⟨settled, unsettled⟩ := passes.rewrote_of_no_occupant quarantined once free
    refine ⟨t, runs, fun target m => (places m).trans (settled target m), fun target => ?_⟩
    obtain ⟨joins, others⟩ := unsettled target
    rw [places]
    exact ⟨joins, fun m other => (places m).trans (others m other)⟩
  · intro promoted held waiting once onceNext listed leaves
    rw [← passes.handle] at listed
    obtain ⟨apart, slotsAfter, first, joins, others, attention, retention⟩ :=
      passes.rewrote_of_successor held waiting once listed leaves
    obtain ⟨live, -, nextBody, nextWord⟩ := s.occupantRecord_spec j
    have next : (s.rewrote a i).slotAt j = s.occupantRecord j := by rw [slotsAfter, if_pos rfl]
    have own : t.slotAt i = s.rewrittenRecord a i := by
      rw [slots, slotsAfter, if_neg (Ne.symm apart), State.rewriting_slotAt, if_pos rfl]
    have occupant := State.occupant_eq_some_iff.mpr ⟨_, _, listed, s.slotOf_handleAt i, by rw [held]; rfl⟩
    have before : s.viewOf n = .quarantined := State.viewOf_of_not_live occupant (by rw [held]; nofun)
    have ownLife : t.lifeAt i = s.rewrittenLife a i := by rw [State.lifeAt, own, life]
    have ownBody : t.bodyAt i = s.rewrittenAt a i := by rw [State.bodyAt, own, body]
    refine ⟨t, runs, ?_, ?_, ?_, fun k notFirst notSecond => ?_, (places n).trans first, fun unsettled => ?_,
      fun m other free => (places m).trans (others m other free),
      changed n (State.viewOf_of_promoted next first) before nofun, ?_, ?_⟩
    · rw [State.lifeAt, slots, next, live]
    · rw [State.bodyAt, slots, next, nextBody]
    · rw [State.intactAt, slots, next, nextWord]
    · rw [slots, slotsAfter, if_neg (Ne.symm notSecond), State.rewriting_slotAt, if_neg (Ne.symm notFirst)]
    · rw [places]
      exact joins unsettled
    · rw [au, attention, nextBody, ownLife, ownBody, ← heldLive held]
      simp only [State.rewriting, List.append_assoc, promoted]
    · rw [ru, retention]
      have barred := barred held
      simp only [State.rewriting] at barred ⊢
      rw [barred]
      simp only [List.append_assoc, List.cons_append, List.nil_append]

end Sys2Proof.Machine
end

section
/-! Proofs about the conflict stages of restore (R142 to R144, 7.6.1). -/

set_option Elab.async false

namespace Sys2Proof.Machine

/-! ## Conflict quarantines -/

section Quarantines

variable {s t u : State} {i j : Slot} {l l' : List Slot}

/-- The record that a conflict quarantine leaves (7.6.1). -/
def State.conflictRecord (s : State) (i : Slot) : SlotState :=
  SlotState.sealed { s.slotAt i with
    life := .quarantined .settled
    body := { s.bodyAt i with credit := 0#8, closing := keptClose (s.slotAt i) } } i

theorem State.conflictRecord_spec (s : State) (i : Slot) :
    (s.conflictRecord i).life = .quarantined .settled ∧ (s.conflictRecord i).intact i = true
      ∧ (s.conflictRecord i).generation = (s.slotAt i).generation
      ∧ (s.conflictRecord i).body = { s.bodyAt i with credit := 0#8, closing := keptClose (s.slotAt i) } := by
  rw [State.conflictRecord, SlotState.sealed_life, SlotState.sealed_generation, SlotState.sealed_body]
  exact ⟨rfl, SlotState.sealed_intact _ i, rfl, rfl⟩

theorem State.conflictRecord_congr (slot : t.slotAt i = s.slotAt i) : t.conflictRecord i = s.conflictRecord i := by
  rw [State.conflictRecord, State.conflictRecord, State.bodyAt, State.bodyAt, slot]

/-- Between `s` and `t` the accounts of the slots `l` have been given conflict quarantines (7.6.1). -/
structure State.Quarantines (s t : State) (l : List Slot) : Prop where
  inside : ∀ k ∈ l, t.slotAt k = s.conflictRecord k
  outside : ∀ k, k ∉ l → t.slotAt k = s.slotAt k
  barred : ∀ k : Slot, k ∈ l ∨ s.ru.barred[k] = true → t.ru.barred[k] = true
  attention : t.au = { s.au with inbox := s.au.inbox ++ l.map fun k => .raised .store (.slot k .quarantined) }
  power : t.ru.power = s.ru.power
  inbox : t.ru.inbox = s.ru.inbox
  tally : t.ru.tally = { s.ru.tally with quarantined := s.ru.tally.quarantined + l.length }
  supplies : t.sc = s.sc

theorem State.conflict_slotAt (s : State) (i k : Slot) :
    (s.conflict i).slotAt k = if i = k then s.conflictRecord i else s.slotAt k := s.putRecord_slotAt i k _

theorem State.conflict_lists (s : State) (i : Slot) : (s.conflict i).store.lists = s.store.lists := rfl

theorem State.conflict_ru (power : s.ru.power = .restoring) (i : Slot) :
    (s.conflict i).ru = { s.ru with
      queue := s.ru.queue.erase (.account i), barred := s.ru.barred.set i true
      tally := { s.ru.tally with quarantined := s.ru.tally.quarantined + 1 } } := by
  have barred := Retention.bar_of_power (r := s.ru) (by rw [power]; decide) i
  have whole : (s.conflict i).ru = { s.ru.bar i with
      tally := { (s.ru.bar i).tally with quarantined := (s.ru.bar i).tally.quarantined + 1 } } := rfl
  rw [whole, barred]

theorem State.Quarantines.of_none (s : State) : s.Quarantines s [] where
  inside := nofun
  outside _ _ := rfl
  barred _ given := given.resolve_left nofun
  attention := by rw [List.map_nil, List.append_nil]
  power := rfl
  inbox := rfl
  tally := rfl
  supplies := rfl

theorem State.Quarantines.of_conflict (power : s.ru.power = .restoring) (i : Slot) : s.Quarantines (s.conflict i) [i] where
  inside k found := by
    obtain rfl := List.mem_singleton.mp found
    rw [State.conflict_slotAt, if_pos rfl]
  outside k other := by
    rw [State.conflict_slotAt, if_neg fun same => other (List.mem_singleton.mpr same.symm)]
  barred k given := by
    rw [State.conflict_ru power]
    change (s.ru.barred.set i true)[k.val] = true
    rw [Vector.getElem_set]
    split
    case isTrue => rfl
    case isFalse other =>
      exact given.resolve_left fun found => other (congrArg Fin.val (List.mem_singleton.mp found).symm)
  attention := rfl
  power := by rw [State.conflict_ru power]
  inbox := by rw [State.conflict_ru power]
  tally := by
    rw [State.conflict_ru power]
    rfl
  supplies := rfl

theorem State.Quarantines.append (first : s.Quarantines t l) (next : t.Quarantines u l') (apart : ∀ k ∈ l, k ∉ l') :
    s.Quarantines u (l ++ l') where
  inside k found := by
    by_cases later : k ∈ l'
    · rw [next.inside k later, State.conflictRecord_congr (first.outside k fun here => apart k here later)]
    · rw [next.outside k later, first.inside k ((List.mem_append.mp found).resolve_right later)]
  outside k other := by
    obtain ⟨notFirst, notNext⟩ := not_or.mp (List.mem_append.not.mp other)
    rw [next.outside k notNext, first.outside k notFirst]
  barred k given := by
    rw [List.mem_append, or_assoc, or_left_comm] at given
    exact next.barred k (given.imp_right (first.barred k))
  attention := by
    rw [next.attention, first.attention, List.map_append, List.append_assoc]
  power := next.power.trans first.power
  inbox := next.inbox.trans first.inbox
  tally := by
    rw [next.tally, first.tally, List.length_append, Nat.add_assoc]
  supplies := next.supplies.trans first.supplies

/-- The conflict quarantines of several accounts, one after another. -/
theorem State.foldl_conflict (power : s.ru.power = .restoring) (once : l.Nodup) :
    s.Quarantines (l.foldl State.conflict s) l := by
  induction l generalizing s with
  | nil => exact .of_none s
  | cons i rest ih =>
    obtain ⟨alone, others⟩ := List.nodup_cons.mp once
    have first := State.Quarantines.of_conflict power i
    exact first.append (ih (first.power.trans power) others) fun k found => (List.mem_singleton.mp found) ▸ alone

theorem State.foldl_conflict_lists (s : State) (l : List Slot) :
    (l.foldl State.conflict s).store.lists = s.store.lists := by
  induction l generalizing s with
  | nil => rfl
  | cons i rest ih => rw [List.foldl_cons, ih, State.conflict_lists]

/-- What a conflict quarantine leaves of an account (7.6.1). -/
theorem State.Quarantines.spec (quarantines : s.Quarantines t l) (found : i ∈ l) :
    t.lifeAt i = .quarantined .settled ∧ t.intactAt i = true ∧ t.ru.barred[i] = true
      ∧ (t.slotAt i).generation = (s.slotAt i).generation ∧ (t.bodyAt i).credit = 0#8
      ∧ (t.bodyAt i).balance = (s.bodyAt i).balance ∧ (t.bodyAt i).reference = (s.bodyAt i).reference
      ∧ .raised .store (.slot i .quarantined) ∈ t.au.inbox := by
  obtain ⟨life, word, generation, body⟩ := s.conflictRecord_spec i
  have slot := quarantines.inside i found
  rw [State.lifeAt, State.intactAt, State.bodyAt, slot, quarantines.attention, life, word, generation, body]
  exact ⟨rfl, rfl, quarantines.barred i (.inl found), rfl, rfl, rfl, rfl,
    List.mem_append_right _ (List.mem_map.mpr ⟨i, found, rfl⟩)⟩

/-- The fields that order and name an account are kept by a conflict quarantine. -/
theorem State.Quarantines.kept (quarantines : s.Quarantines t l) (i : Slot) :
    (t.slotAt i).generation = (s.slotAt i).generation ∧ (t.bodyAt i).serial = (s.bodyAt i).serial
      ∧ (t.bodyAt i).channel = (s.bodyAt i).channel := by
  by_cases found : i ∈ l
  · obtain ⟨-, -, generation, body⟩ := s.conflictRecord_spec i
    rw [State.bodyAt, quarantines.inside i found, generation, body]
    exact ⟨rfl, rfl, rfl⟩
  · rw [State.bodyAt, quarantines.outside i found]
    exact ⟨rfl, rfl, rfl⟩

end Quarantines

/-! ## Age -/

section Age

variable {s : State} {i j k : Slot}

theorem State.newer_iff (s : State) (i j : Slot) :
    s.newer i j = true
      ↔ (s.bodyAt i).serial < (s.bodyAt j).serial ∨ ((s.bodyAt i).serial = (s.bodyAt j).serial ∧ i < j) := by
  simp [State.newer]

theorem State.newer_trans (first : s.newer i j = true) (next : s.newer j k = true) : s.newer i k = true := by
  simp only [State.newer_iff, BitVec.lt_def, ← BitVec.toNat_inj, Fin.lt_def] at *
  omega

theorem State.newer_total (apart : i ≠ j) : s.newer i j = true ∨ s.newer j i = true := by
  simp only [State.newer_iff, BitVec.lt_def, ← BitVec.toNat_inj, Fin.lt_def, ne_eq, Fin.ext_iff] at *
  omega

theorem State.mem_insertByAge (l : List Slot) : k ∈ s.insertByAge i l ↔ k = i ∨ k ∈ l := by
  induction l with
  | nil => simp [State.insertByAge]
  | cons j rest ih =>
    unfold State.insertByAge
    split
    · simp
    · rw [List.mem_cons, ih, List.mem_cons, or_left_comm]

/-- A slot put among others keeps them in ascending order of age. -/
theorem State.pairwise_insertByAge {l : List Slot} (sorted : l.Pairwise fun g h => s.newer g h = true) (new : i ∉ l) :
    (s.insertByAge i l).Pairwise fun g h => s.newer g h = true := by
  induction l with
  | nil => exact List.pairwise_singleton ..
  | cons j rest ih =>
    obtain ⟨least, sorted⟩ := List.pairwise_cons.mp sorted
    obtain ⟨apart, new⟩ := not_or.mp (List.mem_cons.not.mp new)
    unfold State.insertByAge
    split
    case isTrue older =>
      refine List.pairwise_cons.mpr ⟨fun k found => ?_, List.pairwise_cons.mpr ⟨least, sorted⟩⟩
      rcases List.mem_cons.mp found with rfl | later
      · exact older
      · exact State.newer_trans older (least k later)
    case isFalse younger =>
      refine List.pairwise_cons.mpr ⟨fun k found => ?_, ih sorted new⟩
      rcases (State.mem_insertByAge rest).mp found with rfl | later
      · exact (State.newer_total apart).resolve_left younger
      · exact least k later

theorem State.mem_sortedByAge (l : List Slot) : k ∈ l.foldr s.insertByAge [] ↔ k ∈ l := by
  induction l with
  | nil => rfl
  | cons i rest ih => rw [List.foldr_cons, State.mem_insertByAge, ih, List.mem_cons]

theorem State.pairwise_sortedByAge {l : List Slot} (once : l.Nodup) :
    (l.foldr s.insertByAge []).Pairwise fun g h => s.newer g h = true := by
  induction l with
  | nil => exact .nil
  | cons i rest ih =>
    obtain ⟨alone, once⟩ := List.nodup_cons.mp once
    exact State.pairwise_insertByAge (ih once) ((State.mem_sortedByAge rest).not.mpr alone)

end Age

end Sys2Proof.Machine
end

section
/-! Proofs about the first two conflict stages of restore: references and occupancy (R142, R143). -/

set_option Elab.async false

namespace Sys2Proof.Machine

section References

variable {s t : State} {i j : Slot} {n : Channel}

theorem State.isAccount_iff (s : State) (i : Slot) :
    s.isAccount i = true ↔ s.lifeAt i = .waiting ∨ s.lifeAt i = .live ∨ s.lifeAt i = .settled := by
  unfold State.isAccount
  cases s.lifeAt i <;> simp

theorem State.mem_referenceLosers (s : State) (i : Slot) :
    i ∈ s.referenceLosers
      ↔ (s.lifeAt i = .waiting ∨ s.lifeAt i = .live ∨ s.lifeAt i = .settled)
        ∧ ∃ j, j ≠ i ∧ (s.lifeAt j = .waiting ∨ s.lifeAt j = .live ∨ s.lifeAt j = .settled)
          ∧ (s.bodyAt j).reference = (s.bodyAt i).reference
          ∧ ((s.bodyAt i).serial < (s.bodyAt j).serial
              ∨ ((s.bodyAt i).serial = (s.bodyAt j).serial ∧ i < j)) := by
  simp only [State.referenceLosers, List.mem_filter, slots, List.mem_finRange, true_and, Bool.and_eq_true,
    List.any_eq_true, State.isAccount_iff, State.newer_iff, bne_iff_ne, beq_iff_eq]
  refine and_congr_right fun _ => exists_congr fun j => ?_
  tauto

theorem exec_referenceConflicts_of_turn (restoring : s.ru.power = .restoring) (turn : s.ru.stage = .references)
    (quiet : s.au.inbox = []) :
    exec .referenceConflicts s = .next ((s.referenceLosers.foldl State.conflict s).setStage .occupancy) := by
  simp only [exec, execReferenceConflicts, if_pos (State.stageDue_of_turn restoring turn quiet)]

/-- The stage that follows touches no account and no list. -/
theorem State.Quarantines.setStage {l : List Slot} (quarantines : s.Quarantines t l) (g : RestoreStage) :
    s.Quarantines (t.setStage g) l :=
  ⟨quarantines.inside, quarantines.outside, quarantines.barred, quarantines.attention, quarantines.power,
    quarantines.inbox, quarantines.tally, quarantines.supplies⟩

/-! ## Occupancy -/

theorem channelCode_inj {m n : Channel} (same : count8 m.val = count8 n.val) : m = n := by
  have numbers := congrArg BitVec.toNat same
  simp only [count8, BitVec.toNat_ofNat] at numbers
  have := m.isLt
  have := n.isLt
  refine Fin.ext ?_
  omega

theorem exists_channel_of_code {c : Byte} (bound : c ≤ 7#8) : ∃ n : Channel, c = count8 n.val := by
  have small : c.toNat < 8 := Nat.lt_of_le_of_lt (BitVec.le_def.mp bound) (by decide)
  exact ⟨⟨c.toNat, small⟩, BitVec.eq_of_toNat_eq (by simp [count8])⟩

theorem State.namesChannel_iff (s : State) (n : Channel) (i : Slot) :
    s.namesChannel n i = true ↔ (s.bodyAt i).channel = count8 n.val := by
  rw [State.namesChannel, beq_iff_eq]

theorem State.mem_occupancyLosers (s : State) (n : Channel) (i : Slot) :
    i ∈ s.occupancyLosers n
      ↔ (s.lifeAt i = .live ∧ (s.bodyAt i).channel = count8 n.val)
        ∧ ∃ j, (s.lifeAt j = .live ∧ (s.bodyAt j).channel = count8 n.val) ∧ s.newer i j = true := by
  simp only [State.occupancyLosers, List.mem_filter, slots, List.mem_finRange, true_and, Bool.and_eq_true,
    List.any_eq_true, State.namesChannel_iff, beq_iff_eq]

/-- The accounts that the occupancy stage quarantines (R143). -/
def State.crowded (s : State) : List Slot := channels.flatMap s.occupancyLosers

theorem State.mem_crowded_iff (s : State) (i : Slot) : i ∈ s.crowded ↔ ∃ n, i ∈ s.occupancyLosers n := by
  simp [State.crowded, channels]

/-- An account names one channel, so none loses on two. -/
theorem State.nodup_crowded (s : State) : s.crowded.Nodup := by
  refine List.nodup_flatMap.mpr ⟨fun n _ => ((List.nodup_finRange 32).filter _).filter _, ?_⟩
  refine (List.nodup_finRange 8).imp fun {m n} apart => ?_
  refine List.disjoint_left.mpr fun i here there => apart (channelCode_inj ?_)
  rw [← ((s.mem_occupancyLosers m i).mp here).1.2, ((s.mem_occupancyLosers n i).mp there).1.2]

theorem State.mem_crowded_of_bound (bound : (s.bodyAt i).channel ≤ 7#8) :
    i ∈ s.crowded
      ↔ s.lifeAt i = .live ∧ ∃ j, s.lifeAt j = .live ∧ (s.bodyAt j).channel = (s.bodyAt i).channel
          ∧ ((s.bodyAt i).serial < (s.bodyAt j).serial
              ∨ ((s.bodyAt i).serial = (s.bodyAt j).serial ∧ i < j)) := by
  obtain ⟨n, code⟩ := exists_channel_of_code bound
  simp only [State.mem_crowded_iff, State.mem_occupancyLosers, State.newer_iff]
  constructor
  · rintro ⟨m, ⟨live, own⟩, j, ⟨liveToo, other⟩, newer⟩
    exact ⟨live, j, liveToo, other.trans own.symm, newer⟩
  · rintro ⟨live, j, liveToo, same, newer⟩
    exact ⟨n, ⟨live, code⟩, j, ⟨liveToo, same.trans code⟩, newer⟩

/-- Of two LIVE accounts of one channel the older one loses (R143). -/
theorem State.live_unique (quarantines : s.Quarantines t s.crowded) (first : t.lifeAt i = .live)
    (next : t.lifeAt j = .live) (own : (t.bodyAt i).channel = count8 n.val) (other : (t.bodyAt j).channel = count8 n.val) :
    i = j := by
  have kept (k : Slot) (live : t.lifeAt k = .live) : k ∉ s.crowded := fun found => by
    rw [(quarantines.spec found).1] at live
    exact absurd live nofun
  have before (k : Slot) (live : t.lifeAt k = .live) : s.lifeAt k = .live := by
    rwa [State.lifeAt, quarantines.outside k (kept k live)] at live
  rw [(quarantines.kept i).2.2] at own
  rw [(quarantines.kept j).2.2] at other
  by_contra apart
  rcases State.newer_total (s := s) apart with newer | newer
  · exact kept i first ((s.mem_crowded_iff i).mpr
      ⟨n, (s.mem_occupancyLosers n i).mpr ⟨⟨before i first, own⟩, j, ⟨before j next, other⟩, newer⟩⟩)
  · exact kept j next ((s.mem_crowded_iff j).mpr
      ⟨n, (s.mem_occupancyLosers n j).mpr ⟨⟨before j next, other⟩, i, ⟨before i first, own⟩, newer⟩⟩)

theorem State.mem_rebuiltList (t : State) (n : Channel) (h : Handle) :
    h ∈ t.rebuiltList n
      ↔ ∃ i, h = t.handleAt i ∧ (t.bodyAt i).channel = count8 n.val ∧ (t.lifeAt i = .live ∨ t.lifeAt i = .waiting) := by
  simp only [State.rebuiltList, List.mem_map, List.mem_append, State.mem_sortedByAge, List.mem_filter, slots,
    List.mem_finRange, true_and, State.namesChannel_iff, beq_iff_eq]
  refine exists_congr fun i => ?_
  rw [← and_or_left, and_comm, eq_comm]

/-- The rebuilt list holds the LIVE account first and the WAITING ones behind it by age (R143). -/
theorem State.pairwise_rebuiltList (t : State) (n : Channel)
    (alone : ∀ i j, t.lifeAt i = .live → t.lifeAt j = .live → (t.bodyAt i).channel = count8 n.val →
      (t.bodyAt j).channel = count8 n.val → i = j) :
    (t.rebuiltList n).Pairwise fun g h => t.lifeAt (slotOf h) = .waiting
      ∧ (t.lifeAt (slotOf g) = .live ∨ t.newer (slotOf g) (slotOf h) = true) := by
  have bound : (slots.filter (t.namesChannel n)).Nodup := (List.nodup_finRange 32).filter _
  rw [State.rebuiltList, List.pairwise_map]
  simp only [State.slotOf_handleAt]
  refine List.pairwise_append.mpr ⟨?_, ?_, fun i first j next => ?_⟩
  · refine (bound.filter _).imp_of_mem fun {i j} first next apart => absurd ?_ apart
    simp only [List.mem_filter, State.namesChannel_iff, beq_iff_eq] at first next
    exact alone i j first.2 next.2 first.1.2 next.1.2
  · refine (State.pairwise_sortedByAge (bound.filter _)).imp_of_mem fun {i j} _ next newer => ⟨?_, .inr newer⟩
    rw [State.mem_sortedByAge, List.mem_filter, beq_iff_eq] at next
    exact next.2
  · rw [State.mem_sortedByAge, List.mem_filter, beq_iff_eq] at next
    rw [List.mem_filter, beq_iff_eq] at first
    exact ⟨next.2, .inl first.2⟩

/-- All lists replaced. -/
def State.withLists (s : State) (lists : Vector (List Handle) 8) : State :=
  { s with store := { s.store with lists := lists } }

theorem State.withLists_listAt (s : State) (lists : Vector (List Handle) 8) (n : Channel) :
    (s.withLists lists).listAt n = lists[n] := rfl

theorem State.Quarantines.withLists {l : List Slot} (quarantines : s.Quarantines t l) (lists : Vector (List Handle) 8) :
    s.Quarantines (t.withLists lists) l :=
  ⟨quarantines.inside, quarantines.outside, quarantines.barred, quarantines.attention, quarantines.power,
    quarantines.inbox, quarantines.tally, quarantines.supplies⟩

/-- The state after the occupancy stage (R143). -/
def State.afterOccupancy (s : State) : State :=
  let settled := s.crowded.foldl State.conflict s
  (settled.withLists (Vector.ofFn fun n => settled.rebuiltList n)).setStage .promotion

theorem exec_occupancyConflicts_of_turn (restoring : s.ru.power = .restoring) (turn : s.ru.stage = .occupancy)
    (quiet : s.au.inbox = []) : exec .occupancyConflicts s = .next s.afterOccupancy := by
  simp only [exec, execOccupancyConflicts, if_pos (State.stageDue_of_turn restoring turn quiet)]
  rfl

/-- The occupancy stage quarantines first and rebuilds the lists from what is left (R143). -/
theorem State.exists_settled (restoring : s.ru.power = .restoring) :
    ∃ settled, s.Quarantines settled s.crowded ∧ s.Quarantines s.afterOccupancy s.crowded
      ∧ (∀ k, settled.slotAt k = s.afterOccupancy.slotAt k)
      ∧ ∀ n, s.afterOccupancy.listAt n = settled.rebuiltList n := by
  have quarantines := State.foldl_conflict restoring s.nodup_crowded
  refine ⟨_, quarantines, (quarantines.withLists _).setStage .promotion, fun k => ?_, fun n => ?_⟩
  · exact (slotAt_congr (State.setStage_store ..) k).symm
  · unfold State.afterOccupancy
    generalize s.crowded.foldl State.conflict s = settled
    have list : (settled.withLists (Vector.ofFn fun n => settled.rebuiltList n)).listAt n = settled.rebuiltList n := by
      rw [State.withLists_listAt, Fin.getElem_fin, Vector.getElem_ofFn]
    exact (State.listAt_congr (congrArg Store.lists (State.setStage_store _ .promotion)) n).trans list

/-- The lists that the occupancy stage leaves (R143). -/
theorem State.afterOccupancy_lists (restoring : s.ru.power = .restoring) (n : Channel) :
    let t := s.afterOccupancy
    (∀ h, h ∈ t.listAt n ↔ ∃ i, h = t.handleAt i ∧ (t.bodyAt i).channel = count8 n.val
        ∧ (t.lifeAt i = .live ∨ t.lifeAt i = .waiting))
      ∧ (t.listAt n).Pairwise fun g h => t.lifeAt (slotOf h) = .waiting
          ∧ (t.lifeAt (slotOf g) = .live ∨ s.newer (slotOf g) (slotOf h) = true) := by
  intro t
  obtain ⟨settled, quarantines, -, slots, lists⟩ := s.exists_settled restoring
  have life (k : Slot) : t.lifeAt k = settled.lifeAt k := by rw [State.lifeAt, ← slots, State.lifeAt]
  have body (k : Slot) : t.bodyAt k = settled.bodyAt k := by rw [State.bodyAt, ← slots, State.bodyAt]
  have handle (k : Slot) : t.handleAt k = settled.handleAt k := by
    rw [State.handleAt, ← slots, State.handleAt]
  have age (g h : Slot) : settled.newer g h = s.newer g h := by
    rw [State.newer, (quarantines.kept g).2.1, (quarantines.kept h).2.1, State.newer]
  have sorted := settled.pairwise_rebuiltList n fun i j first next own other =>
    State.live_unique quarantines first next own other
  have list : t.listAt n = settled.rebuiltList n := lists n
  simp only [life, body, handle, ← age, list]
  exact ⟨settled.mem_rebuiltList n, sorted⟩

end References

end Sys2Proof.Machine
end

section
/-! Proofs about the promotions and the capacity check of restore (R144). -/

set_option Elab.async false

namespace Sys2Proof.Machine

section Promotion

variable {s t u : State} {i j : Slot} {n : Channel} {rest : List Handle}

/-- A channel that restore promotes none on: it has an occupant, or none of its accounts is WAITING (R144). -/
def State.Occupied (s : State) (m : Channel) : Prop :=
  s.occupant m ≠ none ∨ ∀ h ∈ s.listAt m, s.lifeAt (slotOf h) ≠ .waiting

theorem State.promoteAtRestore_of_occupied (occupied : s.Occupied n) : s.promoteAtRestore n = s := by
  have unwanted : s.wantsPromotion n = false := by
    rw [State.wantsPromotion, Bool.and_eq_false_iff]
    rcases occupied with occupant | none
    · left
      rw [Option.isNone_eq_false_iff, Option.isSome_iff_ne_none]
      exact occupant
    · right
      rw [List.any_eq_false]
      exact fun h found => by simpa using none h found
  rw [State.promoteAtRestore, unwanted, if_neg Bool.false_ne_true]

theorem State.foldl_promoteAtRestore_of_occupied {ns : List Channel} (occupied : ∀ m ∈ ns, s.Occupied m) :
    ns.foldl State.promoteAtRestore s = s := by
  induction ns with
  | nil => rfl
  | cons m ns ih =>
    rw [List.foldl_cons, State.promoteAtRestore_of_occupied (occupied m List.mem_cons_self)]
    exact ih fun k found => occupied k (List.mem_cons_of_mem _ found)

/-- The promotion of a channel's first account, counted (R144). -/
def State.promotedAtRestore (s : State) (i : Slot) : State :=
  (s.makeOccupant i).tallied { (s.makeOccupant i).ru.tally with promoted := (s.makeOccupant i).ru.tally.promoted + 1 }

theorem State.promoteAtRestore_of_first (listed : s.listAt n = s.handleAt i :: rest) (intact : s.intactAt i = true)
    (waiting : s.lifeAt i = .waiting) : s.promoteAtRestore n = s.promotedAtRestore i := by
  have wanted : s.wantsPromotion n = true := by
    simp [State.wantsPromotion, State.occupant, listed, State.slotOf_handleAt, waiting, occupies]
  rw [State.promoteAtRestore, if_pos wanted, State.promote_of_next listed intact waiting, State.promotedAtRestore]

theorem State.promotedAtRestore_slotAt (s : State) (i k : Slot) :
    (s.promotedAtRestore i).slotAt k = if i = k then s.occupantRecord i else s.slotAt k :=
  (slotAt_congr (State.tallied_store ..) k).trans (s.makeOccupant_slotAt i k)

theorem State.promotedAtRestore_lists (s : State) (i : Slot) : (s.promotedAtRestore i).store.lists = s.store.lists :=
  (congrArg Store.lists (State.tallied_store ..)).trans (s.makeOccupant_lists i)

theorem State.promotedAtRestore_au (s : State) (i : Slot) :
    (s.promotedAtRestore i).au = { s.au with
      inbox := s.au.inbox ++ (entryMessages i 0#8 (s.bodyAt i).promoted.credit ++ [.raised .store (.slot i .promoted)]) } :=
  (State.tallied_au ..).trans (s.makeOccupant_au i)

theorem State.promotedAtRestore_ru (s : State) (i : Slot) :
    (s.promotedAtRestore i).ru = { s.ru with
      tally := { s.ru.tally with promoted := s.ru.tally.promoted + 1 }
      inbox := s.ru.inbox ++ [(.store, .account i)] } := by
  rw [State.promotedAtRestore, State.tallied_ru, State.makeOccupant_ru]

/-- The promotion of a WAITING account leaves the other channels as they were to the stage. -/
theorem State.occupied_of_promoted (waiting : s.lifeAt i = .waiting) {m : Channel} (occupied : s.Occupied m) :
    (s.promotedAtRestore i).Occupied m := by
  have list : (s.promotedAtRestore i).listAt m = s.listAt m := State.listAt_congr (s.promotedAtRestore_lists i) m
  have life (k : Slot) (other : i ≠ k) : (s.promotedAtRestore i).lifeAt k = s.lifeAt k := by
    rw [State.lifeAt, State.promotedAtRestore_slotAt, if_neg other, State.lifeAt]
  rcases occupied with occupant | none
  · left
    obtain ⟨k, occupant⟩ := Option.ne_none_iff_exists'.mp occupant
    obtain ⟨hd, tl, first, slot, occupies⟩ := State.occupant_eq_some_iff.mp occupant
    have other : i ≠ k := fun same => by
      rw [← same, waiting] at occupies
      exact absurd occupies nofun
    rw [State.occupant_eq_some_iff.mpr ⟨hd, tl, list.trans first, slot, by rw [life k other]; exact occupies⟩]
    nofun
  · right
    intro h found
    rw [list] at found
    have other : i ≠ slotOf h := fun same => none h found (by rw [← same, waiting])
    rw [life _ other]
    exact none h found

/-- Where one channel alone wants a promotion, the promotions are that one (R144). -/
theorem State.foldl_promoteAtRestore_of_one (listed : s.listAt n = s.handleAt i :: rest) (intact : s.intactAt i = true)
    (waiting : s.lifeAt i = .waiting) (occupied : ∀ m, m ≠ n → s.Occupied m) :
    channels.foldl State.promoteAtRestore s = s.promotedAtRestore i := by
  obtain ⟨before, after, split⟩ := List.append_of_mem (List.mem_finRange n)
  have once : (before ++ n :: after).Nodup := split ▸ List.nodup_finRange 8
  obtain ⟨-, laterOnce, apart⟩ := List.nodup_append.mp once
  have earlier (m : Channel) (found : m ∈ before) : m ≠ n := apart m found n List.mem_cons_self
  have later (m : Channel) (found : m ∈ after) : m ≠ n := fun same => (List.nodup_cons.mp laterOnce).1 (same ▸ found)
  have whole : channels = before ++ n :: after := split
  rw [whole, List.foldl_append, State.foldl_promoteAtRestore_of_occupied fun m found => occupied m (earlier m found),
    List.foldl_cons, State.promoteAtRestore_of_first listed intact waiting,
    State.foldl_promoteAtRestore_of_occupied fun m found =>
      State.occupied_of_promoted waiting (occupied m (later m found))]

/-! ## The capacity check -/

/-- The slots of the accounts beyond the third place of a list, the newest first. -/
def excess (l : List Handle) : List Slot := (l.drop 3).reverse.map slotOf

theorem State.trimList_eq (s : State) (n : Channel) :
    s.trimList n = ((excess (s.listAt n)).foldl State.conflict s).setList n ((s.listAt n).take 3) := by
  rw [excess, List.foldl_map]
  rfl

theorem State.trimList_of_short (short : (s.listAt n).length ≤ 3) : s.trimList n = s := by
  rw [State.trimList_eq, excess, List.drop_eq_nil_of_le short, List.take_of_length_le short]
  exact s.setList_self n

theorem State.foldl_trimList_of_short {ns : List Channel} (short : ∀ m, (s.listAt m).length ≤ 3) :
    ns.foldl State.trimList s = s := by
  induction ns with
  | nil => rfl
  | cons m ns ih => rw [List.foldl_cons, State.trimList_of_short (short m), ih]

theorem State.trimList_listAt (s : State) (n m : Channel) :
    (s.trimList n).listAt m = if n = m then (s.listAt n).take 3 else s.listAt m := by
  rw [State.trimList_eq, State.setList_listAt, State.listAt_congr (s.foldl_conflict_lists _)]

theorem State.Quarantines.setList {l : List Slot} (quarantines : s.Quarantines t l) (n : Channel) (hs : List Handle) :
    s.Quarantines (t.setList n hs) l :=
  ⟨quarantines.inside, quarantines.outside, quarantines.barred, quarantines.attention, quarantines.power,
    quarantines.inbox, quarantines.tally, quarantines.supplies⟩

/-- The capacity check of several channels (R144). -/
theorem State.foldl_trimList {ns : List Channel} (power : s.ru.power = .restoring) (channelsOnce : ns.Nodup)
    (once : (ns.flatMap fun n => excess (s.listAt n)).Nodup) :
    s.Quarantines (ns.foldl State.trimList s) (ns.flatMap fun n => excess (s.listAt n))
      ∧ ∀ m, (ns.foldl State.trimList s).listAt m = if m ∈ ns then (s.listAt m).take 3 else s.listAt m := by
  induction ns generalizing s with
  | nil => exact ⟨.of_none s, fun m => by simp⟩
  | cons n ns ih =>
    obtain ⟨notLater, channelsOnce⟩ := List.nodup_cons.mp channelsOnce
    rw [List.flatMap_cons] at once
    obtain ⟨firstOnce, restOnce, apart⟩ := List.nodup_append.mp once
    have first : s.Quarantines (s.trimList n) (excess (s.listAt n)) := by
      rw [State.trimList_eq]
      exact (State.foldl_conflict power firstOnce).setList n _
    have same (m : Channel) (later : m ∈ ns) : (s.trimList n).listAt m = s.listAt m := by
      rw [State.trimList_listAt, if_neg fun same : n = m => notLater (same ▸ later)]
    have rest : (ns.flatMap fun m => excess ((s.trimList n).listAt m)) = ns.flatMap fun m => excess (s.listAt m) :=
      List.flatMap_congr fun m later => by rw [same m later]
    obtain ⟨next, lists⟩ := ih (s := s.trimList n) (first.power.trans power) channelsOnce (by rwa [rest])
    rw [rest] at next
    refine ⟨?_, fun m => ?_⟩
    · rw [List.foldl_cons, List.flatMap_cons]
      exact first.append next fun k here there => apart k here k there rfl
    · rw [List.foldl_cons, lists, State.trimList_listAt]
      by_cases own : n = m
      · subst own
        simp [notLater]
      · simp [own, Ne.symm own]

/-- The accounts beyond the third place of any channel. -/
def State.beyondCapacity (s : State) : List Slot := channels.flatMap fun n => excess (s.listAt n)

theorem State.mem_beyondCapacity (once : ∀ i, s.ListedOnce i) (i : Slot) :
    i ∈ s.beyondCapacity ↔ ∃ n, s.handleAt i ∈ (s.listAt n).drop 3 := by
  simp only [State.beyondCapacity, channels, excess, List.mem_flatMap, List.mem_finRange, true_and, List.mem_map,
    List.mem_reverse]
  refine exists_congr fun n => ⟨?_, fun found => ⟨_, found, s.slotOf_handleAt i⟩⟩
  rintro ⟨h, found, rfl⟩
  rwa [← (once (slotOf h) n h (List.mem_of_mem_drop found) rfl).1]

/-- Accounts that stand in one list once are beyond capacity once (R24). -/
theorem State.nodup_beyondCapacity (once : ∀ i, s.ListedOnce i) : s.beyondCapacity.Nodup := by
  refine List.nodup_flatMap.mpr ⟨fun n _ => ?_, ?_⟩
  · cases list : s.listAt n with
    | nil => exact List.nodup_nil
    | cons hd tl =>
      have nodup : (s.listAt n).Nodup := (once (slotOf hd) n hd (by rw [list]; exact List.mem_cons_self) rfl).2.1
      rw [← list]
      refine (List.nodup_reverse.mpr (nodup.sublist (List.drop_sublist 3 _))).map_on fun g here h there same => ?_
      have here := List.mem_of_mem_drop (List.mem_reverse.mp here)
      have there := List.mem_of_mem_drop (List.mem_reverse.mp there)
      rw [(once _ n g here rfl).1, (once _ n h there rfl).1, same]
  · refine (List.nodup_finRange 8).imp fun {m n} apart => List.disjoint_left.mpr fun i here there => ?_
    obtain ⟨g, first, rfl⟩ := List.mem_map.mp here
    obtain ⟨h, next, same⟩ := List.mem_map.mp there
    have first := List.mem_of_mem_drop (List.mem_reverse.mp first)
    have next := List.mem_of_mem_drop (List.mem_reverse.mp next)
    rw [(once _ n h next rfl).1, same, ← (once _ m g first rfl).1] at next
    exact apart ((once _ m g first rfl).2.2 n next).symm

end Promotion

/-! ## The stage -/

section Stage

variable {s : State} {i : Slot} {n : Channel} {rest : List Handle}

/-- The state after the promotion stage, from the two parts of its work (R144, R159). -/
def State.afterPromotion (s promoted trimmed : State) : State :=
  (trimmed.setAu { trimmed.au with
    inbox := messagesReordered s.au.inbox promoted.au.inbox trimmed.au.inbox }).setStage .summary

variable {promoted trimmed : State}

theorem State.afterPromotion_store : (s.afterPromotion promoted trimmed).store = trimmed.store := rfl

theorem State.afterPromotion_ru : (s.afterPromotion promoted trimmed).ru = { trimmed.ru with stage := .summary } := rfl

/-- The raises of the capacity check stand ahead of those of the promotions (R159). -/
theorem State.afterPromotion_au (quiet : s.au.inbox = []) :
    (s.afterPromotion promoted trimmed).au
      = { trimmed.au with inbox := trimmed.au.inbox ++ promoted.au.inbox } := by
  have order : messagesReordered s.au.inbox promoted.au.inbox trimmed.au.inbox = trimmed.au.inbox ++ promoted.au.inbox := by
    rw [quiet]
    simp [messagesReordered]
  rw [← order]
  rfl

theorem State.afterPromotion_slotAt (k : Slot) : (s.afterPromotion promoted trimmed).slotAt k = trimmed.slotAt k :=
  slotAt_congr State.afterPromotion_store k

theorem State.afterPromotion_listAt (m : Channel) : (s.afterPromotion promoted trimmed).listAt m = trimmed.listAt m :=
  State.listAt_congr (congrArg Store.lists State.afterPromotion_store) m

theorem State.Quarantines.afterPromotion {l : List Slot} (quarantines : s.Quarantines trimmed l) (quiet : s.au.inbox = []) :
    s.Quarantines (s.afterPromotion s trimmed) l where
  inside := quarantines.inside
  outside := quarantines.outside
  barred := quarantines.barred
  attention := by rw [State.afterPromotion_au quiet, quarantines.attention, quiet, List.append_nil]
  power := quarantines.power
  inbox := quarantines.inbox
  tally := quarantines.tally
  supplies := quarantines.supplies

theorem exec_restorePromotion_of_turn (restoring : s.ru.power = .restoring) (turn : s.ru.stage = .promotion)
    (quiet : s.au.inbox = []) (promotes : channels.foldl State.promoteAtRestore s = promoted)
    (trims : channels.foldl State.trimList (promoted.setAu { promoted.au with inbox := s.au.inbox }) = trimmed) :
    exec .restorePromotion s = .next (s.afterPromotion promoted trimmed) := by
  simp only [exec, execRestorePromotion, if_pos (State.stageDue_of_turn restoring turn quiet), promotes, trims,
    State.afterPromotion]

end Stage

/-- Settles O59: a stage is a run of conflict quarantines over the accounts that lose, whose effect is one structure; then
the lists are rebuilt, promoted or cut. -/
theorem conflictsAreSettled : Obligations.ConflictsAreSettled := by
  unfold Obligations.ConflictsAreSettled
  intro s restoring quiet account newer quarantined settled
  refine ⟨fun turn => ?_, fun turn => ?_, fun n i rest turn law listed waiting short others => ?_,
    fun turn occupied once => ?_⟩
  · have quarantines : s.Quarantines ((s.referenceLosers.foldl State.conflict s).setStage .occupancy) s.referenceLosers :=
      (State.foldl_conflict restoring ((List.nodup_finRange 32).filter _)).setStage .occupancy
    refine ⟨_, exec_referenceConflicts_of_turn restoring turn quiet, rfl, s.foldl_conflict_lists _, fun i => ?_⟩
    have loses := s.mem_referenceLosers i
    exact ⟨fun lost => quarantines.spec (loses.mpr lost), fun kept => quarantines.outside i (loses.not.mpr kept)⟩
  · obtain ⟨-, -, quarantines, -⟩ := s.exists_settled restoring
    refine ⟨_, exec_occupancyConflicts_of_turn restoring turn quiet, rfl, fun i bound => ?_, fun n => ?_⟩
    · have loses := State.mem_crowded_of_bound bound
      exact ⟨fun lost => quarantines.spec (loses.mpr lost), fun kept => quarantines.outside i (loses.not.mpr kept)⟩
    · obtain ⟨members, sorted⟩ := s.afterOccupancy_lists restoring n
      refine ⟨members, sorted.imp fun {g h} => ?_⟩
      rw [State.newer_iff]
      exact id
  · have promotes := State.foldl_promoteAtRestore_of_one listed (law i) waiting others
    have trims : channels.foldl State.trimList
        ((s.promotedAtRestore i).setAu { (s.promotedAtRestore i).au with inbox := s.au.inbox })
          = (s.promotedAtRestore i).setAu { (s.promotedAtRestore i).au with inbox := s.au.inbox } := by
      refine State.foldl_trimList_of_short fun m => ?_
      rw [State.listAt_congr (congrArg Store.lists (State.setAu_store ..)),
        State.listAt_congr (s.promotedAtRestore_lists i)]
      exact short m
    have runs := exec_restorePromotion_of_turn restoring turn quiet promotes trims
    obtain ⟨live, -, body, word⟩ := s.occupantRecord_spec i
    have slots (k : Slot) := State.promotedAtRestore_slotAt s i k
    have lists := s.promotedAtRestore_lists i
    have au := s.promotedAtRestore_au i
    have ru := s.promotedAtRestore_ru i
    generalize s.promotedAtRestore i = after at *
    have own : (after.setAu { after.au with inbox := s.au.inbox }).slotAt i = s.occupantRecord i :=
      (slots i).trans (if_pos rfl)
    refine ⟨_, runs, ?_, ?_, ?_, fun j other => ?_, ?_, ?_, ?_⟩
    · rw [State.lifeAt, State.afterPromotion_slotAt, own, live]
    · rw [State.bodyAt, State.afterPromotion_slotAt, own, body]
    · rw [State.intactAt, State.afterPromotion_slotAt, own, word]
    · rw [State.afterPromotion_slotAt]
      exact (slots j).trans (if_neg (Ne.symm other))
    · rw [State.afterPromotion_store]
      exact lists
    · rw [State.afterPromotion_au quiet, State.setAu_au, au, quiet]
      rfl
    · rw [State.afterPromotion_ru, State.setAu_ru, ru]
  · have promotes := State.foldl_promoteAtRestore_of_occupied (s := s) (ns := channels) fun m _ => occupied m
    have runs := exec_restorePromotion_of_turn restoring turn quiet promotes rfl
    have distinct := State.nodup_beyondCapacity once
    obtain ⟨trims, lists⟩ := State.foldl_trimList (s := s) (ns := channels) restoring (List.nodup_finRange 8) distinct
    have same : s.setAu { s.au with inbox := s.au.inbox } = s := rfl
    rw [same] at runs
    generalize channels.foldl State.trimList s = trimmed at *
    have quarantines := trims.afterPromotion quiet
    have loses (i : Slot) := State.mem_beyondCapacity once i
    refine ⟨_, runs, rfl, fun n => ?_, fun i => ⟨fun lost => quarantines.spec ((loses i).mpr lost),
      fun kept => quarantines.outside i ((loses i).not.mpr kept)⟩, ?_, ?_, quarantines.inbox, quarantines.supplies⟩
    · rw [State.afterPromotion_listAt]
      exact (lists n).trans (if_pos (List.mem_finRange n))
    · rw [quarantines.attention, quiet, List.nil_append, List.map_flatMap]
      simp only [excess, List.map_map]
      rfl
    · rw [quarantines.tally, List.length_flatMap]
      simp only [excess, List.length_map, List.length_reverse, List.length_drop]

end Sys2Proof.Machine
end

section
/-! Proofs about the walks of the Levy Engine (4.6) and about the messages that the Attention Unit takes (8.2, 8.6). -/

set_option Elab.async false

namespace Sys2Proof.Machine

/-! ## The walks of the Levy Engine -/

section LevyEngine

variable {s : State} {q : Request} {w : WalkData} {r : LevyResult}

theorem exec_levy_of_serves {number : BitVec 16} (hq : s.Serves q (.levy number)) :
    exec .levy s = .next (s.takeLevy number) := by
  simp only [exec, execLevy, State.claim_of_serves hq]

theorem exec_cancelLevy_of_serves (hq : s.Serves q .cancelLevy) : exec .cancelLevy s = .next s.takeCancel := by
  simp only [exec, execCancelLevy, State.claim_of_serves hq]

theorem exec_levyResult_of_returned (returned : s.le.result = some r) :
    exec .levyResult s = .next (s.takeLevyResult r) := by
  simp only [exec, execLevyResult, returned]

/-- One walk at a time (R76). -/
theorem State.takeLevy_of_walk (walk : s.le.walk ≠ .idle) (number : BitVec 16) :
    s.takeLevy number = s.answer .busy [] := by
  unfold State.takeLevy
  split
  case _ idle => exact absurd idle walk
  all_goals rfl

/-- In STOPPING every result ends the walk (R79). -/
theorem State.takeLevyResult_of_stopping (stopping : s.le.walk = .stopping w) :
    s.takeLevyResult r = s.endWalk (w.count r) false := by
  simp only [State.takeLevyResult, stopping]

/-- A walk goes on from a slot that has another above it (R79). -/
theorem State.takeLevyResult_of_more (walking : s.le.walk = .walking w) (found : r ≠ .exhausted)
    (more : (w.count r).cursor ≤ 31) :
    s.takeLevyResult r
      = s.setLe { s.le with walk := .walking (w.count r), claim := some (w.count r).claim, result := none } := by
  simp only [State.takeLevyResult, walking, if_pos (And.intro found more)]

/-- A walk completes when no slot is left above its cursor (R79). -/
theorem State.takeLevyResult_of_last (walking : s.le.walk = .walking w)
    (last : ¬ (r ≠ .exhausted ∧ (w.count r).cursor ≤ 31)) : s.takeLevyResult r = s.endWalk (w.count r) true := by
  simp only [State.takeLevyResult, walking, if_neg last]

/-- What each result with a slot counts, as the table of R79 lists it. -/
theorem WalkData.count_of_listed {i : Slot} {x : WalkData}
    (listed : r = .charged i ∧ x = { w with charged := w.charged + 1, cursor := i.val + 1 }
      ∨ r = .already i ∧ x = { w with already := w.already + 1, cursor := i.val + 1 }
      ∨ r = .refused i ∧ x = { w with cursor := i.val + 1 }) :
    w.count r = x ∧ r ≠ .exhausted ∧ x.cursor = i.val + 1 := by
  rcases listed with ⟨rfl, rfl⟩ | ⟨rfl, rfl⟩ | ⟨rfl, rfl⟩
  all_goals exact ⟨rfl, nofun, rfl⟩

/-- Settles O41: a levy starts the walk that its results carry on, and the last result or a cancellation ends it. -/
theorem levyWalks : Obligations.LevyWalks := by
  unfold Obligations.LevyWalks
  intro s q w
  dsimp only
  refine ⟨fun number hq => ⟨fun idle => ?_, fun walk => ?_⟩, fun hq => ⟨fun idle => ?_, fun walking => ?_,
    fun stopping => ?_⟩, fun returned => ⟨fun walking => ?_, fun stopping => ?_⟩, fun i r x returned listed => ?_⟩
  · rw [exec_levy_of_serves hq]
    simp only [State.takeLevy, idle]
    exact next_answer_of_kept hq (by rfl) _ _
  · rw [exec_levy_of_serves hq, State.takeLevy_of_walk walk]
    exact next_answer_of_kept hq (by rfl) _ _
  · rw [exec_cancelLevy_of_serves hq]
    simp only [State.takeCancel, idle]
    exact next_answer_of_kept hq (by rfl) _ _
  · rw [exec_cancelLevy_of_serves hq]
    simp only [State.takeCancel, walking]
    exact next_answer_of_kept hq (by rfl) _ _
  · rw [exec_cancelLevy_of_serves hq]
    simp only [State.takeCancel, stopping]
    exact next_answer_of_kept hq (by rfl) _ _
  · rw [exec_levyResult_of_returned returned, State.takeLevyResult_of_last walking fun more => more.1 rfl]
    rfl
  · rw [exec_levyResult_of_returned returned, State.takeLevyResult_of_stopping stopping]
    rfl
  · obtain ⟨counted, found, cursor⟩ := WalkData.count_of_listed listed
    rw [exec_levyResult_of_returned returned]
    refine ⟨fun walking below => ?_, fun walking top => ?_, fun stopping => ?_⟩
    · rw [State.takeLevyResult_of_more walking found (by rw [counted]; omega), counted, WalkData.claim, cursor]
      rfl
    · rw [State.takeLevyResult_of_last walking fun more => by rw [counted] at more; omega, counted]
      rfl
    · rw [State.takeLevyResult_of_stopping stopping, counted]
      rfl

end LevyEngine

/-! ## The messages of the Attention Unit -/

section AttentionMessages

variable {s : State} {before after : List AttentionMessage} {r : Raise} {a : Attention}

theorem exec_causeRaise_of_oldest {source : Block} (raises : source.raisesCauses = true)
    (inbox : s.au.inbox = before ++ .raised source r :: after) (oldest : ∀ m ∈ before, m.isFrom source = false) :
    exec (.causeRaise source) s = .next (s.setAu (Attention.takeRaise { s.au with inbox := before ++ after } r)) := by
  have taken := takeMessage_spec source (.raised source r) before after (beq_self_eq_true source) oldest
  simp only [exec, execCauseRaise, raises, Bool.not_true, Bool.false_eq_true, ↓reduceIte, inbox, taken]

theorem exec_slotEntryRemoval_of_oldest {i : Slot} (inbox : s.au.inbox = before ++ .removed i :: after)
    (oldest : ∀ m ∈ before, m.isFrom .store = false) :
    exec .slotEntryRemoval s = .next (s.setAu (Attention.takeRemoval { s.au with inbox := before ++ after } i)) := by
  have taken := takeMessage_spec .store (.removed i) before after rfl oldest
  simp only [exec, execSlotEntryRemoval, inbox, taken]

theorem Attention.takeRaise_of_hidden (hidden : a.mask.hides r = true) : a.takeRaise r = a := if_pos hidden

/-- A raise that is taken leaves an entry, so ATTN is asserted (R152). -/
theorem Attention.takeRaise_of_recorded {list : List Entry} (shown : a.mask.hides r = false)
    (recorded : recordCause (raiseSubject r) (raiseBit r) a.list = list) (filled : list ≠ []) :
    a.takeRaise r = { a with list := list, attn := true } := by
  have line : (!list.isEmpty) = true := by simpa using filled
  rw [Attention.takeRaise, shown, if_neg Bool.false_ne_true, recorded, Attention.setList, line]

/-- A cause joins the entry of its subject, wherever it stands (R150). -/
theorem recordCause_append {subject : Subject} {bit : Nat} {x y : List Entry} {e : Entry} (same : e.subject = subject)
    (apart : ∀ d ∈ x, d.subject ≠ subject) :
    recordCause subject bit (x ++ e :: y) = x ++ { e with causes := e.causes ||| (1#8 <<< bit) } :: y := by
  induction x with
  | nil => exact if_pos same
  | cons d rest ih =>
    obtain ⟨other, others⟩ := List.forall_mem_cons.mp apart
    rw [List.cons_append, recordCause, if_neg other, ih others]
    rfl

/-- The first cause of a subject appends its entry (R150). -/
theorem recordCause_of_absent {subject : Subject} {bit : Nat} {list : List Entry}
    (absent : ∀ d ∈ list, d.subject ≠ subject) :
    recordCause subject bit list = list ++ [{ subject := subject, causes := 1#8 <<< bit }] := by
  induction list with
  | nil => simp only [recordCause, setWith, ↓reduceIte, BitVec.zero_or, List.nil_append]
  | cons d rest ih =>
    obtain ⟨other, others⟩ := List.forall_mem_cons.mp absent
    rw [recordCause, if_neg other, ih others]
    rfl

/-- A removal leaves the entries of the other subjects, and ATTN follows them (R152, R157). -/
theorem Attention.takeRemoval_eq (a : Attention) (i : Slot) :
    a.takeRemoval i
      = { a with
          list := a.list.filter fun e => e.subject ≠ .slot i
          attn := !(a.list.filter fun e => e.subject ≠ .slot i).isEmpty } := by
  simp only [Attention.takeRemoval, Attention.setList, decide_not, bne]
  rfl

/-- Settles O50: the oldest message of a block is taken; a raise that the mask does not hide joins or appends its entry,
and a removal takes the slot's entry out. -/
theorem attentionMessagesTaken : Obligations.AttentionMessagesTaken := by
  unfold Obligations.AttentionMessagesTaken
  intro s before after
  refine ⟨fun source r raises inbox oldest => ?_, fun i inbox oldest => ?_⟩
  · dsimp only
    rw [exec_causeRaise_of_oldest raises inbox oldest]
    refine ⟨fun hidden => ?_, fun unmasked => ?_⟩
    · have hides : s.au.mask.hides r = true := by cases r <;> exact hidden
      rw [Attention.takeRaise_of_hidden (a := { s.au with inbox := before ++ after }) hides]
      rfl
    · have shown : s.au.mask.hides r = false := by cases r <;> exact unmasked
      refine ⟨fun x e y list same apart => ?_, fun absent => ?_⟩
      · have recorded : recordCause (raiseSubject r) (raiseBit r) s.au.list = _ := list ▸ recordCause_append same apart
        rw [Attention.takeRaise_of_recorded (a := { s.au with inbox := before ++ after }) shown recorded (by simp)]
        rfl
      · rw [Attention.takeRaise_of_recorded (a := { s.au with inbox := before ++ after }) shown
          (recordCause_of_absent absent) (by simp)]
        rfl
  · rw [exec_slotEntryRemoval_of_oldest inbox oldest, Attention.takeRemoval_eq]
    rfl

end AttentionMessages

end Sys2Proof.Machine
end
